-- ==== Sys2Proof/Word.lean ====
section
/-! DEFINITION. The byte and the 16-bit word that frames, records and image sections are made of (R193, R194). -/

namespace Sys2Proof

/-- One byte of a station frame, a management record, a reply or an image section. -/
abbrev Byte := BitVec 8

/-- A 16-bit word: a CRC (R193), a flag word (R194) or the value of one loop slot (R130). -/
abbrev Word := BitVec 16

end Sys2Proof
end

