-- ==== Sys2Proof/Config.lean ====
section
/-! DEFINITION. The fixed capacities of the part, and the values that the manual leaves open (constants without a body). -/

namespace Sys2Proof.Config

/-- Table 1-1: roster capacity (R1). -/
def rosterMax : Nat := 120
/-- Table 1-1: the number of the service station (R15). -/
def serviceStation : Nat := 250
/-- Table 1-1: the highest station number that may be enrolled (R19). -/
def stationMax : Nat := 249
/-- Table 1-1: consecutive misses that place an absence request (R9). -/
def missLimit : Nat := 3
/-- Table 2-1: intake queue capacity (R22). -/
def intakeMax : Nat := 32
/-- Table 2-1: members per group (R46). -/
def groupMax : Nat := 32
/-- Table 2-1: member places shared by all groups (R46). -/
def groupPlaces : Nat := 1024
/-- Table 3-1: claim records in the pool (R51). -/
def poolSize : Nat := 1536
/-- Table 3-1: pooled claims per circuit (R52). -/
def listMax : Nat := 8
/-- Table 4-1: scene entry places shared by all scenes (R77). -/
def scenePlaces : Nat := 8192
/-- Table 5-1: pending list capacity (R95). -/
def pendingMax : Nat := 32
/-- Table 8-2: confirmation list capacity (R155). -/
def confirmMax : Nat := 16
/-- Table 8-2: failed frames that fail a segment of a confirmation record (R156). -/
def failLimit : Nat := 3
/-- Table 13-1: unrouted queue capacity (R197). -/
def unroutedMax : Nat := 16
/-- Table 7-1: outstanding loop frames (R131, R135). -/
def outstandingMax : Nat := 2
/-- Table 7-1: bits of one loop frame, 277 bytes. -/
def loopFrameBits : Nat := 2216

/-- FREE VALUE (log entry 9). ENROL and DELETE are refused with OUT_OF_RANGE for a bad argument (R19, R20) and with BUSY while
the store is BUSY (R176). The manual does not say which answer is given when both hold. This constant says whether the range check
comes first. -/
opaque rangeBeforeBusy : Bool

end Sys2Proof.Config
end

