-- ==== Sys2Proof/Syntax.lean ====
section
/-! DEFINITION. The commands of the part: one constructor of Instr for each row of spec/opcode_table.json, with the row's operands.
The first 36 rows are events at the part's lines, pins, timers and arbiter. The last 26 are the management requests of Table 11-6. -/

namespace Sys2Proof

/-- A stage manager's cue (Terms, 'Cue'). -/
inductive Cue where
  | a
  | b
  deriving DecidableEq, Repr

/-- One section of the image as it is stored (R172, R196): erased, which has no content and no CRC, or a content with the CRC
stored beside it. The stored length is the length of the content. -/
inductive ImageSection where
  | erased
  | stored (content : List Byte) (crc : Word)
  deriving DecidableEq, Repr

/-- The fields of a window entry as they stand on the line or in the image (Table 12-7), each still a number. `enabled` is the
entry's first byte, which WRITE_WINDOW ignores. -/
structure WindowFields where
  enabled : Nat
  stationFirst : Nat
  stationLast : Nat
  controlFirst : Nat
  controlLast : Nat
  trigger : Nat
  action : Nat
  targetKind : Nat
  targetArg : Nat
  rowPitch : Nat
  layer : Nat
  level : Nat
  step : Nat
  fade : Nat
  hold : Nat
  apply : Nat
  feedback : Nat
  argument : Nat
  showSafe : Nat
  deriving DecidableEq, Repr

/-- The fields of a circuit entry as they stand on the line or in the image (Table 12-7), each still a number. -/
structure CircuitFields where
  curve : Nat
  preheat : Nat
  topSet : Nat
  switchPoint : Nat
  masterGroup : Nat
  defaultFade : Nat
  mergeRule : Nat
  egress : Nat
  egressLevel : Nat
  lossAction : Nat
  lossLevel : Nat
  deriving DecidableEq, Repr

/-- The fields of a settings entry without its masks (Table 12-7), each still a number. -/
structure SettingsFields where
  lineLoss : Nat
  modeFade : Nat
  recoveryFade : Nat
  powerOnScene : Nat
  learn : Nat
  houseToCue : Nat
  deriving DecidableEq, Repr

/-- The EGRESS input as an entry to RUNNING or UNCONFIGURED samples it (R161). When it is asserted, `built` says whether the first
LEVEL frame of an entry to RUNNING was built before the sample was applied (R149, R174). -/
inductive EgressSample where
  | released
  | asserted (built : Bool)
  deriving DecidableEq, Repr

/-- What ends in an answer window (R6): the bytes received, to the end of the frame. While the event records of a valid answer are
appended, the Route Resolver may take records from the head of the intake queue (R12). `takes` says how many it takes before each
record is offered, and none where the list ends (log entry 32). -/
structure Arrival where
  bytes : List Byte
  takes : List Nat := []
  deriving DecidableEq, Repr

/-- The commands. An event's operands are what the world outside decides: the bytes or bits that arrived, the state of an input,
what the non-volatile medium holds. A request's operands are the number of the station that sends it, its tag, and the payload
fields of Table 12-1 as received. -/
inductive Instr where
  /-- POWER_ON (R171). -/
  | powerOn
  /-- POWER_LOSS (R178). `written` sections of a SAVE in progress were written whole; `rest` is what the sections after them hold. -/
  | powerLoss (written : Nat) (rest : List ImageSection)
  /-- LOADING_END (R173), with the EGRESS sample of the entry and the state of the two cue contacts (R161, R99). -/
  | loadingEnd (egress : EgressSample) (cueA cueB : Bool)
  /-- POLL_SENT (R5). -/
  | pollSent
  /-- ANSWER_RECEIVED (R6). -/
  | answerReceived (frame : Arrival)
  /-- ANSWER_WINDOW_TIMEOUT (R6). -/
  | answerWindowTimeout
  /-- STRAY_STATION_FRAME (R6), with the bytes received. -/
  | strayStationFrame (frame : List Byte)
  /-- LINE_LOSS_TIMER_EXPIRY (R18). -/
  | lineLossTimerExpiry
  /-- EGRESS_ASSERTION (R162). -/
  | egressAssertion
  /-- EGRESS_RELEASE (R163). -/
  | egressRelease
  /-- CUE_INPUT_DEBOUNCED (R99): the contact of the cue has held the new state for 10 ms. -/
  | cueInputDebounced (cue : Cue) (asserted : Bool)
  /-- TAKE_EVENT_RECORD (R23). -/
  | takeEventRecord
  /-- CLAIM_ACTION_GRANT (R34). -/
  | claimActionGrant
  /-- ABSENCE_GRANT (R10). -/
  | absenceGrant
  /-- STATION_REMOVAL_GRANT (R20). -/
  | stationRemovalGrant
  /-- CLAIM_TIMER_EXPIRY (R71). -/
  | claimTimerExpiry
  /-- EXPIRY_GRANT (R72). -/
  | expiryGrant
  /-- SET_LEVEL_GRANT (R73). -/
  | setLevelGrant
  /-- RELEASE_LAYER_GRANT (R74). -/
  | releaseLayerGrant
  /-- MERGE_RULE_GRANT (R75). -/
  | mergeRuleGrant
  /-- RECALL_GRANT (R84). -/
  | recallGrant
  /-- RECALL_COMPLETION (R88). -/
  | recallCompletion
  /-- RELEASE_GRANT (R91). -/
  | releaseGrant
  /-- CAPTURE_GRANT (R93). -/
  | captureGrant
  /-- CUE_GRANT (R102). -/
  | cueGrant
  /-- CUE_COMPLETION (R103). -/
  | cueCompletion
  /-- MODE_CHANGE_GRANT (R108). -/
  | modeChangeGrant
  /-- FADE_STEP_TIMER_EXPIRY (R114). -/
  | fadeStepTimerExpiry
  /-- LEVEL_SCHEDULE_TIMER_EXPIRY (R132). -/
  | levelScheduleTimerExpiry
  /-- STATUS_SCHEDULE_TIMER_EXPIRY (R133). -/
  | statusScheduleTimerExpiry
  /-- FRAME_TRANSMIT_START (R135). -/
  | frameTransmitStart
  /-- FRAME_TRANSMIT_END (R135). -/
  | frameTransmitEnd
  /-- RETURN_TIMEOUT (R138). -/
  | returnTimeout
  /-- LOOP_FRAME_RECEIVED (R139), with the bits received, first bit first. -/
  | loopFrameReceived (bits : List Bool)
  /-- SAVE_COMPLETION (R177). `readBack` says, for each section in order, what the medium reads back in place of the bytes
  written from the start of the content on; an absent or empty entry reads back what was written. -/
  | saveCompletion (readBack : List (List Byte))
  /-- VERIFY_COMPLETION (R179). -/
  | verifyCompletion
  /-- READ_STATUS (R185). -/
  | readStatus (sender tag : Nat)
  /-- READ_ENTRY (R186): the entry kind code, its argument, and the first position for a scene or the pending list. -/
  | readEntry (sender tag kind arg position : Nat)
  /-- READ_UNROUTED (R198). -/
  | readUnrouted (sender tag : Nat)
  /-- CLEAR_FLAGS (R188). -/
  | clearFlags (sender tag : Nat) (flags : Word)
  /-- SET_MASK (R189). -/
  | setMask (sender tag : Nat) (masks : Word)
  /-- RESTART (R191). -/
  | restart (sender tag : Nat)
  /-- WRITE_SETTINGS (R180). -/
  | writeSettings (sender tag : Nat) (fields : SettingsFields)
  /-- SAVE (R177). -/
  | save (sender tag : Nat)
  /-- VERIFY (R179): the section code and the expected CRC. -/
  | verify (sender tag sectionCode : Nat) (expected : Word)
  /-- ENROL (R19). -/
  | enrol (sender tag station controls privilege : Nat)
  /-- DELETE (R20). -/
  | delete (sender tag station : Nat)
  /-- WRITE_WINDOW (R48). -/
  | writeWindow (sender tag index : Nat) (fields : WindowFields)
  /-- SET_WINDOW (R49). -/
  | setWindow (sender tag index enable : Nat)
  /-- ADD_GROUP_MEMBER (R47). -/
  | addGroupMember (sender tag group circuit : Nat)
  /-- REMOVE_GROUP_MEMBER (R47). -/
  | removeGroupMember (sender tag group circuit : Nat)
  /-- SET_LEVEL (R73). -/
  | setLevel (sender tag circuit layer level fade : Nat)
  /-- RELEASE_LAYER (R74). -/
  | releaseLayer (sender tag layer first last : Nat)
  /-- SET_SCENE_ENTRY (R80). -/
  | setSceneEntry (sender tag scene circuit level : Nat)
  /-- CLEAR_SCENE_ENTRY (R81). -/
  | clearSceneEntry (sender tag scene circuit : Nat)
  /-- SET_SCENE_FADE (R81). -/
  | setSceneFade (sender tag scene fade : Nat)
  /-- CAPTURE_SCENE (R92). -/
  | captureScene (sender tag scene : Nat)
  /-- SET_MODE (R107). -/
  | setMode (sender tag mode pin : Nat)
  /-- FIRE_CUE (R100). -/
  | fireCue (sender tag cue : Nat)
  /-- CLEAR_PENDING (R98). -/
  | clearPending (sender tag selector : Nat)
  /-- SET_MASTER (R119). -/
  | setMaster (sender tag master value : Nat)
  /-- WRITE_CIRCUIT (R126). -/
  | writeCircuit (sender tag circuit : Nat) (fields : CircuitFields)
  deriving DecidableEq, Repr

end Sys2Proof
end

