-- ==== Sys2Proof/Decode.lean ====
section
/-! DEFINITION. The decoder of table words. No row of spec/opcode_table.json has bits, since a command of this part is an event or a
management record and not an instruction word (log entry 23). The records' own decoding is `Machine.askedOf` (Table 12-1). -/

namespace Sys2Proof

/-- The command that a word spells by the table's bits: none, for the table gives no row any bits. -/
def decodeTableWord (_ _ : Nat) : Option Instr := none

end Sys2Proof
end

