-- ==== Sys2Proof/Machine/State.lean ====
section
/-! DEFINITION. The state of the part, block by block as Table 0-2 cuts it, as plain data; the reasons a step can stop; and the
state right after power-on. -/

namespace Sys2Proof.Machine

/-! ### Numbers and codes -/

/-- A circuit. The spec's circuit number, 1 to 512, is the value plus 1 (`circuitNumber`). -/
abbrev Circuit := Fin 512
/-- A segment, 0 to 3 (R130). -/
abbrev Segment := Fin 4
/-- A master, 0 to 3 (R117). -/
abbrev Master := Fin 4
/-- A window index, 0 to 63 (R24). -/
abbrev WindowIndex := Fin 64
/-- A group number, 0 to 63 (R46). -/
abbrev GroupNo := Fin 64
/-- A scene. The spec's scene number, 1 to 96, is the value plus 1 (`sceneNumber`). -/
abbrev SceneNo := Fin 96
/-- A section of the image, in the order of Table 10-3. -/
abbrev SectionNo := Fin 6

/-- The part states (R171), in the order that R194 codes them. -/
inductive Part where
  | loading
  | running
  | unconfigured
  deriving DecidableEq, Repr

/-- The layers of pooled claims, lowest first (Table 3-2). A safety slot is a claim of layer SAFETY and is held apart (R53). -/
inductive Layer where
  | work
  | house
  | scene
  deriving DecidableEq, Repr

/-- The winning layer of a circuit (R61), in the order that R194 codes it. -/
inductive WinLayer where
  | work
  | house
  | scene
  | safety
  | none
  deriving DecidableEq, Repr

/-- The owner of a pooled claim (Table 3-3). -/
inductive Owner where
  | station (station control : Nat)
  | management
  | scenePlayer
  deriving DecidableEq, Repr

/-- The kind of a claim (Table 3-2). A TIMED claim carries its remaining seconds; 0 is EXPIRED, as Table 12-7 codes it (R71). -/
inductive ClaimKind where
  | latched
  | momentary
  | timed (left : Nat)
  deriving DecidableEq, Repr

/-- The merge rule of a circuit (R60). -/
inductive MergeRule where
  | highest
  | latest
  deriving DecidableEq, Repr

/-- The curve of a circuit (R122). -/
inductive Curve where
  | linear
  | square
  | switched
  deriving DecidableEq, Repr

/-- The loss action of a circuit (Table 9-2). -/
inductive LossAction where
  | ignore
  | hold
  | safe
  deriving DecidableEq, Repr

/-- The show mode (R105). -/
inductive Mode where
  | work
  | performance
  deriving DecidableEq, Repr

/-- The operation of a MODE window (R106). -/
inductive ModeOp where
  | enter
  | leave
  | toggle
  deriving DecidableEq, Repr

/-- The kinds of event record (Table 1-4). -/
inductive EventKind where
  | press
  | release
  | hold
  | repeated
  | value
  deriving DecidableEq, Repr

/-- The trigger of a window (Table 2-2). -/
inductive Trigger where
  | press
  | release
  | hold
  deriving DecidableEq, Repr

/-- The apply point of a window (Table 2-2). -/
inductive ApplyPoint where
  | now
  | cueA
  | cueB
  deriving DecidableEq, Repr

/-- The feedback kind of a window (Table 2-2). -/
inductive FeedbackKind where
  | posted
  | confirmed
  deriving DecidableEq, Repr

/-- The action of a window with its argument (Table 2-2). -/
inductive Action where
  | setLevel
  | toggle
  | clear
  | momentary
  | timed
  | raise
  | lower
  | fader
  | master (m : Master)
  | scene (n : SceneNo)
  | sceneOff
  | mode (op : ModeOp)
  | cue (x : Cue)
  deriving DecidableEq, Repr

/-- The target of a window (Table 2-2). -/
inductive Target where
  | offset (base : Circuit)
  | group (g : GroupNo)
  | none
  deriving DecidableEq, Repr

/-- A resolved target: the circuit that OFFSET computed (R31), or the group whose members are read later (R32). -/
inductive TargetRef where
  | circuit (c : Circuit)
  | group (g : GroupNo)
  deriving DecidableEq, Repr

/-- The privilege of a roster entry (Table 1-2). -/
inductive Privilege where
  | nothing
  | show
  | config
  deriving DecidableEq, Repr

/-- The live state of a roster entry (Table 1-2). -/
inductive Live where
  | unknown
  | present
  | absent
  deriving DecidableEq, Repr

/-- The indicator codes (Table 8-1). -/
inductive Indicator where
  | off
  | on
  | wait
  | ack
  | nack
  deriving DecidableEq, Repr

/-- The result codes of a reply (Table 11-2). -/
inductive Result where
  | done
  | adjusted
  | accepted
  | busy
  | refusedLive
  | refusedPending
  | outOfRange
  | noSpace
  | checkFailed
  | checkRequired
  | notPermitted
  | unknownRequest
  deriving DecidableEq, Repr

/-- The fault flags, in the order of Table 11-4, which is the order of their bits in a flag word (R194). -/
inductive Flag where
  | loopOpen
  | loopCorrupt
  | loopParity
  | rackFault
  | lampFault
  | egressFault
  | lineLost
  | stationMissing
  | stationFrame
  | intakeOverflow
  | claimPoolFull
  | pendingFull
  | mgmtCheck
  | storeFault
  deriving DecidableEq, Repr

/-- The circuit status codes (Table 7-3). -/
inductive RackStatus where
  | notPresent
  | ok
  | noLoad
  | overtemp
  | breakerOpen
  | dimmerFault
  deriving DecidableEq, Repr

/-- The two kinds of loop frame (R130). -/
inductive LoopKind where
  | level
  | status
  deriving DecidableEq, Repr

/-- The kinds of loop fault (R145), in the order that R194 codes them. -/
inductive FaultKind where
  | opened
  | corrupt
  | parity
  deriving DecidableEq, Repr

/-! ### Station Line Controller -/

/-- A reply (Table 12-5) without its CRC, which `Reply.bytes` adds. -/
structure Reply where
  tag : Nat
  result : Result
  payload : List Byte
  deriving DecidableEq, Repr

/-- One roster entry (Table 1-2). Whether its absence request waits is read from the waiting order (`State.absenceWaiting`). -/
structure RosterEntry where
  station : Nat
  controls : Nat
  privilege : Privilege
  live : Live
  missed : Nat
  slot : Option Reply
  deriving DecidableEq, Repr

/-- A POLL as it was built (R5): the number polled, one indicator code for each control, and the reply it carries. -/
structure Poll where
  station : Nat
  codes : List Indicator
  reply : Option Reply
  deriving DecidableEq, Repr

/-- What the controller is doing on the station line: nothing (LOADING, R4), sending a POLL, or holding the answer window open
for the number polled (R5, R6). -/
inductive LinePhase where
  | quiet
  | sending (poll : Poll)
  | awaiting (station : Nat)
  deriving DecidableEq, Repr

/-- The poll position (R3): the roster station last visited (0 before the first), the service station, or the probe. -/
inductive PollPosition where
  | roster (station : Nat)
  | service
  | probe
  deriving DecidableEq, Repr

/-- The state of the Station Line Controller (Chapter 1). -/
structure LineBlock where
  /-- R1, ascending by station. -/
  roster : List RosterEntry
  /-- R14: the reply slot of the service station. -/
  serviceSlot : Option Reply
  phase : LinePhase
  position : PollPosition
  /-- R2: 0 to 7. -/
  cycleCount : Nat
  /-- R16: 1 to 249. -/
  discovery : Nat
  /-- R18: whether line loss is declared. -/
  lossDeclared : Bool
  /-- R17: the line-loss timer, stopped or running with the duration, in tenths of a second, that this run started with. -/
  lossTimer : Option Nat
  deriving DecidableEq, Repr

/-! ### Route Resolver -/

/-- An event record with its station (R22). The value is read for VALUE alone. -/
structure EventRecord where
  station : Nat
  control : Nat
  kind : EventKind
  value : Nat
  deriving DecidableEq, Repr

/-- One window (Table 2-2). -/
structure Window where
  enabled : Bool
  stationFirst : Nat
  stationLast : Nat
  controlFirst : Nat
  controlLast : Nat
  trigger : Trigger
  action : Action
  target : Target
  rowPitch : Nat
  layer : Layer
  level : Nat
  step : Nat
  fade : Nat
  hold : Nat
  apply : ApplyPoint
  feedback : FeedbackKind
  showSafe : Bool
  deriving DecidableEq, Repr

/-- The defaults of Table 2-2. -/
def Window.default : Window where
  enabled := false
  stationFirst := 1
  stationLast := 1
  controlFirst := 0
  controlLast := 0
  trigger := .press
  action := .setLevel
  target := .none
  rowPitch := 0
  layer := .work
  level := 0
  step := 1
  fade := 0
  hold := 1
  apply := .now
  feedback := .posted
  showSafe := false

/-- The state of the Route Resolver (Chapter 2). The claim action or MODE action that it holds stands in the waiting order. -/
structure RouteBlock where
  /-- R22, oldest first. -/
  intake : List EventRecord
  /-- R24. -/
  windows : Vector Window 64
  /-- R46: the members of each group, ascending. -/
  groups : Vector (List Circuit) 64
  deriving DecidableEq, Repr

/-! ### Claims and requests -/

/-- One pooled claim of a circuit (Table 3-2). -/
structure Claim where
  layer : Layer
  owner : Owner
  window : Option WindowIndex
  kind : ClaimKind
  level : Nat
  fade : Nat
  deriving DecidableEq, Repr

/-- The state that the Claim Table keeps for one circuit. -/
structure ClaimCircuit where
  /-- R52: the claim list, oldest first. -/
  claims : List Claim
  /-- R53: the EGRESS slot. -/
  egress : Option Nat
  /-- R53: the LOSS slot. -/
  loss : Option Nat
  /-- R61: the merged target last published. -/
  target : Nat
  /-- R61: the winning layer last published. -/
  winner : WinLayer
  /-- R63: the circuit's fade time in the open change set, when it is entered there. -/
  entry : Option Nat
  deriving DecidableEq, Repr

/-- R76. -/
def ClaimCircuit.empty : ClaimCircuit where
  claims := []
  egress := none
  loss := none
  target := 0
  winner := .none
  entry := none

/-- The work of a claim action with the window's quantities that it reads (Table 2-3). The event kind has already chosen between
the two works of MOMENTARY (R39); FADER carries its VALUE (R42). -/
inductive ClaimWork where
  | setLevel (level fade : Nat)
  | toggle (level fade : Nat)
  | clear
  | press (level fade : Nat)
  | release
  | timed (level fade hold : Nat)
  | raise (step fade : Nat)
  | lower (step fade : Nat)
  | fader (value level fade : Nat)
  deriving DecidableEq, Repr

/-- A claim action that waits for its grant (R34), with everything read from the window at the match (R25). -/
structure ClaimAction where
  station : Nat
  control : Nat
  window : WindowIndex
  layer : Layer
  work : ClaimWork
  target : TargetRef
  feedback : FeedbackKind
  deriving DecidableEq, Repr

/-- The work of a pending record (Table 5-2). -/
inductive PendingWork where
  | claim (layer : Layer) (work : ClaimWork) (target : TargetRef)
  | scene (n : SceneNo)
  | sceneOff
  deriving DecidableEq, Repr

/-- One pending record (Table 5-2). -/
structure Pending where
  station : Nat
  control : Nat
  window : WindowIndex
  cue : Cue
  work : PendingWork
  feedback : FeedbackKind
  deriving DecidableEq, Repr

/-- The station control that asked for a recall or a release, with the feedback kind of its window (R83). -/
structure Asker where
  station : Nat
  control : Nat
  feedback : FeedbackKind
  deriving DecidableEq, Repr

/-- A FIRE_CUE whose reply waits for its cue: the station and the number of records its event took (R100). -/
structure Fire where
  station : Nat
  count : Nat
  deriving DecidableEq, Repr

/-- A request at the Claim Table arbiter (Table 3-6). The requests of management carry the station whose reply waits. -/
inductive Request where
  | claimAction (a : ClaimAction)
  | absence (station : Nat)
  | removal (station : Nat)
  | expiry
  | setLevel (sender : Nat) (c : Circuit) (layer : Layer) (level fade : Nat) (adjusted : Bool)
  | releaseLayer (sender : Nat) (layer : Layer) (first last : Circuit)
  | mergeRule (sender : Nat) (c : Circuit) (adjusted : Bool)
  | recall (n : SceneNo) (asker : Option Asker)
  | release (asker : Asker)
  | capture (sender : Nat) (n : SceneNo)
  | cue (x : Cue) (records : List Pending) (fires : List Fire)
  | modeAction (op : ModeOp) (station control : Nat)
  | modeSet (sender : Nat) (mode : Mode)
  deriving DecidableEq, Repr

/-- One entry of a scene (Table 4-2). -/
structure SceneEntry where
  circuit : Circuit
  level : Nat
  deriving DecidableEq, Repr

/-- One scene (Table 4-2). -/
structure SceneRecord where
  fade : Nat
  /-- Ascending by circuit. -/
  entries : List SceneEntry
  deriving DecidableEq, Repr

/-- The recall in flight on its own (Table 4-3): its scene, the content read at the grant, who asked, and, its passes being done,
whether the placement pass was cut short by the pool (R87). -/
structure RecallWork where
  scene : SceneNo
  content : SceneRecord
  asker : Option Asker
  refused : Bool
  deriving DecidableEq, Repr

/-- What an open cue has done with one taken record (R102): skipped it because its station has no roster entry, or applied it,
with whether the outcome is NACK and the circuits that its own work entered into the set (R103). -/
inductive AppliedResult where
  | skipped
  | applied (refused : Bool) (touched : List Circuit)
  deriving DecidableEq, Repr

/-- One record of an open cue with its result. -/
structure Applied where
  record : Pending
  result : AppliedResult
  deriving DecidableEq, Repr

/-- The cue whose change set is open (R102 to R104). -/
structure CueWork where
  cue : Cue
  records : List Applied
  fires : List Fire
  deriving DecidableEq, Repr

/-- The work whose change set stays open between two steps: a recall, or a cue. Every other granted work closes its set in the
step that grants it (R67). -/
inductive OpenWork where
  | recall (w : RecallWork)
  | cue (w : CueWork)
  deriving DecidableEq, Repr

/-- The state of the Claim Table (Chapter 3, Chapter 9). -/
structure ClaimBlock where
  circuits : Vector ClaimCircuit 512
  /-- R51: the free records of the pool. -/
  poolFree : Nat
  /-- R63: the open change set's work, if a set is open; its circuits carry their `entry`. -/
  openSet : Option OpenWork
  /-- R66: the waiting order, oldest first. -/
  order : List Request
  /-- R161: the debounced EGRESS state, true when asserted. -/
  egressAsserted : Bool
  deriving DecidableEq, Repr

/-! ### Scene Player, Cue and Mode Unit -/

/-- The state of the Scene Player (Chapter 4). Its waiting requests stand in the waiting order, the recall in flight in the open
change set. -/
structure SceneBlock where
  /-- R77. -/
  scenes : Vector SceneRecord 96
  /-- R82. -/
  active : Option SceneNo
  deriving DecidableEq, Repr

/-- The state of the Cue and Mode Unit (Chapter 5). -/
structure CueBlock where
  /-- R95: the pending list, oldest first. -/
  pendings : List Pending
  /-- R105. -/
  mode : Mode
  /-- R105. -/
  pin : Bool
  /-- R99: the debounced CUE_A contact, true when asserted. -/
  cueA : Bool
  /-- R99: the debounced CUE_B contact, true when asserted. -/
  cueB : Bool
  deriving DecidableEq, Repr

/-! ### Level Engine -/

/-- The attribute record of one circuit (Table 6-4). -/
structure Attr where
  curve : Curve
  preheat : Nat
  topSet : Nat
  switchPoint : Nat
  masterGroup : Option Master
  defaultFade : Nat
  mergeRule : MergeRule
  egress : Bool
  egressLevel : Nat
  lossAction : LossAction
  lossLevel : Nat
  deriving DecidableEq, Repr

/-- The defaults of Table 6-4. -/
def Attr.default : Attr where
  curve := .linear
  preheat := 0
  topSet := 1000
  switchPoint := 500
  masterGroup := none
  defaultFade := 20
  mergeRule := .highest
  egress := false
  egressLevel := 1000
  lossAction := .ignore
  lossLevel := 1000

/-- The state that the Level Engine keeps for one circuit (Table 6-2, Table 6-4). -/
structure EngineCircuit where
  attr : Attr
  /-- R112: the published target. -/
  target : Nat
  /-- R112: the safety flag. -/
  safety : Bool
  fadeActive : Bool
  fadeStart : Nat
  fadeTarget : Nat
  fadeSteps : Nat
  fadeTaken : Nat
  /-- R115: the current level. -/
  level : Nat
  /-- R123: the output code. -/
  code : Nat
  deriving DecidableEq, Repr

/-- R129, with the attributes of the circuit. -/
def EngineCircuit.initial (a : Attr) : EngineCircuit where
  attr := a
  target := 0
  safety := false
  fadeActive := false
  fadeStart := 0
  fadeTarget := 0
  fadeSteps := 0
  fadeTaken := 0
  level := 0
  code := 0

/-- The state of the Level Engine (Chapter 6). -/
structure EngineBlock where
  circuits : Vector EngineCircuit 512
  /-- R117. -/
  masters : Vector Nat 4
  deriving DecidableEq, Repr

/-! ### Circuit Loop Controller -/

/-- A frame that has fallen due (R134). -/
structure DueFrame where
  kind : LoopKind
  segment : Segment
  deriving DecidableEq, Repr

/-- A loop frame as it is sent (R136, R137): the 128 slot values stand for the 17-bit slots, and `LoopFrame.bits` adds parity
and CRC. -/
structure LoopFrame where
  kind : LoopKind
  segment : Segment
  seq : BitVec 8
  slots : List Word
  deriving DecidableEq, Repr

/-- An outstanding frame (R135): `sent` is the copy of the codes of a LEVEL frame, empty for a STATUS frame (R137); `ended` says
that its last bit has gone out, so that its return timeout runs (R138). -/
structure Outstanding where
  kind : LoopKind
  segment : Segment
  seq : BitVec 8
  sent : List Word
  ended : Bool
  deriving DecidableEq, Repr

/-- The loop fault record when it holds a fault (R145). -/
structure LoopFault where
  kind : FaultKind
  segment : Segment
  circuit : Option Circuit
  count : Nat
  deriving DecidableEq, Repr

/-- The state of the Circuit Loop Controller (Table 7-2). -/
structure LoopBlock where
  levelRotation : Segment
  statusRotation : Segment
  waiting : List DueFrame
  /-- R135: the frame being sent, or none when the transmitter is idle. -/
  transmitter : Option LoopFrame
  nextSeq : BitVec 8
  /-- Oldest first. -/
  outstanding : List Outstanding
  failures : Nat
  openRun : Nat
  fault : Option LoopFault
  /-- R146. -/
  status : Vector RackStatus 512
  deriving DecidableEq, Repr

/-! ### Feedback Tracker -/

/-- A one-shot that waits in its slot (R150): true for ACK, false for NACK. A slot with none has no entry in the list. -/
structure OneShot where
  station : Nat
  control : Nat
  ack : Bool
  deriving DecidableEq, Repr

/-- The state of one segment of a confirmation record (Table 8-4). -/
inductive SegmentState where
  | waiting
  | satisfied
  | failed
  deriving DecidableEq, Repr

/-- One segment entry of a confirmation record (Table 8-4). -/
structure SegmentWait where
  segment : Segment
  pass : Nat
  state : SegmentState
  failures : Nat
  deriving DecidableEq, Repr

/-- One confirmation record (Table 8-4). -/
structure Confirmation where
  station : Nat
  control : Nat
  segments : List SegmentWait
  deriving DecidableEq, Repr

/-- The state of the Feedback Tracker (Chapter 8). -/
structure FeedbackBlock where
  /-- R150: the one-shots waiting, at most one for each station and control. -/
  shots : List OneShot
  /-- R155: the confirmation list, oldest first. -/
  confirmations : List Confirmation
  deriving DecidableEq, Repr

/-! ### Table Store -/

/-- The store state (Table 10-6). BUSY with SAVE names the section being written; BUSY with VERIFY names the section being read
and carries the station whose reply waits and the expected CRC (R179). -/
inductive StoreState where
  | idle
  | saving (current : SectionNo)
  | verifying (sender : Nat) (current : SectionNo) (expected : Word)
  deriving DecidableEq, Repr

/-- The last result (Table 10-6). -/
inductive LastResult where
  | none
  | save (pass : Bool)
  | verify (pass : Bool) (sectionNo : SectionNo) (crc : Word)
  deriving DecidableEq, Repr

/-- The state of the Table Store (Chapter 10). -/
structure StoreBlock where
  /-- R172: the image, which outlives RESTART and loss of power. -/
  image : Vector ImageSection 6
  /-- R172: the image condition, true for VALID. -/
  valid : Bool
  state : StoreState
  last : LastResult
  deriving DecidableEq, Repr

/-! ### Management Unit -/

/-- The settings record (Table 10-5). The power-on scene is none for 0. A mask bit that is set means masked (R189). -/
structure Settings where
  lineLoss : Nat
  modeFade : Nat
  recoveryFade : Nat
  powerOnScene : Option SceneNo
  learn : Bool
  houseToCue : Bool
  masks : Word
  deriving DecidableEq, Repr

/-- The defaults of Table 10-5. -/
def Settings.default : Settings where
  lineLoss := 20
  modeFade := 30
  recoveryFade := 50
  powerOnScene := none
  learn := false
  houseToCue := false
  masks := 0

/-- A request in progress (R182). -/
structure InProgress where
  station : Nat
  tag : Nat
  deriving DecidableEq, Repr

/-- The kind of an unrouted record (Table 13-1). -/
inductive UnroutedKind where
  | event (k : EventKind)
  | newStation
  deriving DecidableEq, Repr

/-- One unrouted record (Table 13-1). -/
structure Unrouted where
  station : Nat
  control : Nat
  kind : UnroutedKind
  deriving DecidableEq, Repr

/-- The state of the Management Unit (Table 11-1). The FAULT output is computed from the flags and masks (`State.faultOutput`). -/
structure MgmtBlock where
  /-- R182: at most one for each station number. -/
  requests : List InProgress
  /-- R191: the stations whose RESTART reply waits; restart is pending while there is one. -/
  restartSet : List Nat
  /-- R187: the fault flags as one flag word. -/
  flags : Word
  settings : Settings
  /-- R197, oldest first. -/
  unrouted : List Unrouted
  deriving DecidableEq, Repr

/-! ### The whole part -/

/-- The state of the part. -/
structure State where
  /-- Whether the supply is present (R171, R178). -/
  powered : Bool
  /-- R171. -/
  part : Part
  line : LineBlock
  route : RouteBlock
  claims : ClaimBlock
  player : SceneBlock
  cues : CueBlock
  engine : EngineBlock
  loop : LoopBlock
  feedback : FeedbackBlock
  store : StoreBlock
  mgmt : MgmtBlock
  /-- The model's own: the commands that wait, oldest first. -/
  pending : List Instr
  deriving DecidableEq, Repr

/-- The reasons a step can stop with a fault: none. The manual names no event at which the part stops short of a next state, so
no meaning answers a fault (log entry 5). -/
inductive Fault where
  deriving DecidableEq, Repr

/-- The reasons a step can be refused. -/
inductive Refusal where
  /-- Raised by exec for a command that has no meaning yet; safe, since nothing is then claimed of it. No arm of exec raises it. -/
  | notModelled (mnemonic : String)
  deriving DecidableEq, Repr

/-- The part right after power-on: LOADING, with every block at the values its chapter states for power-on (R21, R22, R76, R82,
R111, R129, R149, R160, R170, R181, R192). The image, its condition, the live tables during LOADING, the debounced inputs and the
output codes have no stated value here: log entries 1, 2, 14 and 15. -/
def State.reset : State where
  powered := true
  part := .loading
  line :=
    { roster := [], serviceSlot := none, phase := .quiet, position := .roster 0, cycleCount := 0, discovery := 1,
      lossDeclared := false, lossTimer := none }
  route := { intake := [], windows := Vector.replicate 64 Window.default, groups := Vector.replicate 64 [] }
  claims :=
    { circuits := Vector.replicate 512 ClaimCircuit.empty, poolFree := Config.poolSize, openSet := none, order := [],
      egressAsserted := false }
  player := { scenes := Vector.replicate 96 { fade := 0, entries := [] }, active := none }
  cues := { pendings := [], mode := .work, pin := false, cueA := false, cueB := false }
  engine :=
    { circuits := Vector.replicate 512 (EngineCircuit.initial Attr.default), masters := Vector.replicate 4 1000 }
  loop :=
    { levelRotation := 0, statusRotation := 0, waiting := [], transmitter := none, nextSeq := 0, outstanding := [],
      failures := 0, openRun := 0, fault := none, status := Vector.replicate 512 .notPresent }
  feedback := { shots := [], confirmations := [] }
  store := { image := Vector.replicate 6 .erased, valid := false, state := .idle, last := .none }
  mgmt := { requests := [], restartSet := [], flags := 0, settings := Settings.default, unrouted := [] }
  pending := []

end Sys2Proof.Machine
end

