-- ==== Sys2Proof/Machine/Bits.lean ====
section
/-! DEFINITION. Bytes, the CRC of R193, the flags of a flag word, and the slots and bits of a loop frame (R194, Table 12-6). -/

namespace Sys2Proof.Machine

/-- A quantity of one byte (R194). -/
def byteOf (n : Nat) : Byte := BitVec.ofNat 8 n

/-- A quantity of two bytes, most significant byte first (R194). -/
def be16 (n : Nat) : List Byte := [BitVec.ofNat 8 (n / 256), BitVec.ofNat 8 n]

/-- The two bytes of a 16-bit word, high byte first (R193). -/
def wordBytes (w : Word) : List Byte := be16 w.toNat

/-- The quantity that two bytes hold, most significant byte first (R194). -/
def ofBe16 (hi lo : Byte) : Nat := hi.toNat * 256 + lo.toNat

/-- The word that two bytes hold. -/
def wordOf (hi lo : Byte) : Word := BitVec.ofNat 16 (ofBe16 hi lo)

/-- A code that is present, or every bit set for an absent one-byte field (R194). -/
def optByte : Option Nat → Byte
  | some n => byteOf n
  | none => 0xFF#8

/-- A quantity that is present, or every bit set for an absent two-byte field (R194). -/
def optBe16 : Option Nat → List Byte
  | some n => be16 n
  | none => [0xFF#8, 0xFF#8]

/-- A yes, set or asserted as 1 (R194). -/
def boolByte (b : Bool) : Byte := if b then 1#8 else 0#8

/-! ### The CRC (R193) -/

/-- The bits of a byte, most significant first. -/
def byteBits (b : Byte) : List Bool :=
  [b.getLsbD 7, b.getLsbD 6, b.getLsbD 5, b.getLsbD 4, b.getLsbD 3, b.getLsbD 2, b.getLsbD 1, b.getLsbD 0]

/-- The bits of a word, most significant first. -/
def wordBits (w : Word) : List Bool :=
  [w.getLsbD 15, w.getLsbD 14, w.getLsbD 13, w.getLsbD 12, w.getLsbD 11, w.getLsbD 10, w.getLsbD 9, w.getLsbD 8,
   w.getLsbD 7, w.getLsbD 6, w.getLsbD 5, w.getLsbD 4, w.getLsbD 3, w.getLsbD 2, w.getLsbD 1, w.getLsbD 0]

/-- One bit into the CRC register: generator 0x3D65, neither input nor result reflected (R193). -/
def crcBit (r : Word) (b : Bool) : Word :=
  if (r.getLsbD 15 ^^ b) then (r <<< 1) ^^^ 0x3D65#16 else r <<< 1

/-- The CRC of a string of bits, from 0xFFFF, with no final inversion (R193). -/
def crcOfBits (bits : List Bool) : Word := bits.foldl crcBit 0xFFFF#16

/-- The CRC of a string of bytes, each most significant bit first (R193). -/
def crc16 (bytes : List Byte) : Word := crcOfBits (bytes.flatMap byteBits)

/-! ### Flag words (R194) -/

/-- The bit of a flag in a flag word: its place in Table 11-4, counting from 0. -/
def Flag.index : Flag → Nat
  | .loopOpen => 0
  | .loopCorrupt => 1
  | .loopParity => 2
  | .rackFault => 3
  | .lampFault => 4
  | .egressFault => 5
  | .lineLost => 6
  | .stationMissing => 7
  | .stationFrame => 8
  | .intakeOverflow => 9
  | .claimPoolFull => 10
  | .pendingFull => 11
  | .mgmtCheck => 12
  | .storeFault => 13

/-- The flag word that holds one flag. -/
def Flag.word (f : Flag) : Word := 1#16 <<< f.index

/-- Bits 0 to 13: the fourteen flags. Bits 14 and 15 are sent as 0 and ignored when received (R194). -/
def flagBits : Word := 0x3FFF#16

/-- The flags that have no mask: EGRESS_FAULT, LINE_LOST and STORE_FAULT (R189). -/
def unmaskable : Word := Flag.egressFault.word ||| Flag.lineLost.word ||| Flag.storeFault.word

/-! ### Loop frames (R130, R194, Table 12-6) -/

/-- Whether a string of bits holds an odd number of ones. -/
def oddOnes (bits : List Bool) : Bool := bits.foldl (· ^^ ·) false

/-- The 17 bits of a slot: the value, most significant bit first, and the parity bit that makes the number of ones odd (R130). -/
def slotBits (w : Word) : List Bool := wordBits w ++ [!oddOnes (wordBits w)]

/-- The kind byte of a loop frame (Table 12-6). -/
def LoopKind.byte : LoopKind → Byte
  | .level => 0x10#8
  | .status => 0x11#8

/-- The three header bytes of a loop frame (Table 12-6). -/
def loopHeader (kind : LoopKind) (segment : Segment) (seq : BitVec 8) : List Byte := [kind.byte, byteOf segment.val, seq]

/-- The bits of a loop frame before its CRC. -/
def LoopFrame.body (f : LoopFrame) : List Bool :=
  (loopHeader f.kind f.segment f.seq).flatMap byteBits ++ f.slots.flatMap slotBits

/-- The bits of a loop frame as it is sent, first bit first (Table 12-6). -/
def LoopFrame.bits (f : LoopFrame) : List Bool := f.body ++ wordBits (crcOfBits f.body)

/-- The word that a string of 16 bits spells, most significant bit first. -/
def wordOfBits (bits : List Bool) : Word := bits.foldl (fun w b => (w <<< 1) ||| (if b then 1#16 else 0#16)) 0#16

end Sys2Proof.Machine
end

