-- ==== Sys2Proof/Machine/Flags.lean ====
section
/-! DEFINITION. The fault flags: reports (R187), clearing (R188), masks (R189) and the FAULT output (R190). -/

namespace Sys2Proof.Machine

/-- R187: a report of a flag by its detecting block sets it. -/
def State.report (f : Flag) (s : State) : State := { s with mgmt := { s.mgmt with flags := s.mgmt.flags ||| f.word } }

/-- A report that is made when a condition holds. -/
def State.reportIf (b : Bool) (f : Flag) (s : State) : State := if b then s.report f else s

/-- Whether a flag is set. -/
def State.flagSet (f : Flag) (s : State) : Bool := s.mgmt.flags &&& f.word != 0

/-- R190: the FAULT output is active while at least one flag is set whose mask is unmasked, or which has no mask. -/
def State.faultOutput (s : State) : Bool :=
  s.mgmt.flags &&& flagBits &&& (unmaskable ||| ~~~s.mgmt.settings.masks) != 0

/-- R188: the flags that a CLEAR_FLAGS keeps set: LINE_LOST while line loss is declared, STORE_FAULT while the image condition is
INVALID. -/
def State.heldFlags (s : State) : Word :=
  (if s.line.lossDeclared then Flag.lineLost.word else 0) ||| (if s.store.valid then 0 else Flag.storeFault.word)

/-- R188: the flag word after a CLEAR_FLAGS of the named flags. -/
def State.clearedFlags (named : Word) (s : State) : Word := s.mgmt.flags &&& (~~~named ||| s.heldFlags)

/-- R189: the mask word that a SET_MASK stores: no bit for a flag that has no mask, bits 14 and 15 ignored (R194). -/
def storedMasks (masks : Word) : Word := masks &&& flagBits &&& ~~~unmaskable

end Sys2Proof.Machine
end

