-- ==== Sys2Proof/Machine/Operands.lean ====
section
/-! DEFINITION. The operand forms: the codes of enumerated fields in both directions (R194), numbers as circuits, scenes, windows and
groups, the ranges that quantities are clamped to, and the field records of Table 12-7 in both directions. -/

namespace Sys2Proof.Machine

/-! ### Numbers -/

/-- A number below a bound, as an index. -/
def indexOf (n k : Nat) : Option (Fin n) := if h : k < n then some ⟨k, h⟩ else none

/-- The circuit number of a circuit, 1 to 512. -/
def circuitNumber (c : Circuit) : Nat := c.val + 1

/-- The circuit that a number names, if it lies in 1 to 512. -/
def circuitOf (n : Nat) : Option Circuit := if n = 0 then none else indexOf 512 (n - 1)

/-- The scene number of a scene, 1 to 96. -/
def sceneNumber (n : SceneNo) : Nat := n.val + 1

/-- The scene that a number names, if it lies in 1 to 96. -/
def sceneOf (n : Nat) : Option SceneNo := if n = 0 then none else indexOf 96 (n - 1)

/-- R130: the segment of a circuit. -/
def segmentOf (c : Circuit) : Segment := ⟨c.val / 128, by omega⟩

/-- A quantity brought to the nearest end of its range. -/
def clamp (lo hi n : Nat) : Nat := max lo (min hi n)

/-- A yes or no, set or clear code (R194). -/
def yesNoOf : Nat → Option Bool
  | 0 => some false
  | 1 => some true
  | _ => none

/-! ### Codes of enumerated fields (R194) -/

def Layer.code : Layer → Nat
  | .work => 0
  | .house => 1
  | .scene => 2

def layerOf : Nat → Option Layer
  | 0 => some .work
  | 1 => some .house
  | 2 => some .scene
  | _ => none

/-- The layers that a window may hold: WORK and HOUSE (Table 2-2). -/
def windowLayerOf : Nat → Option Layer
  | 0 => some .work
  | 1 => some .house
  | _ => none

def WinLayer.code : WinLayer → Nat
  | .work => 0
  | .house => 1
  | .scene => 2
  | .safety => 3
  | .none => 4

def cueCode : Cue → Nat
  | .a => 0
  | .b => 1

def cueOf : Nat → Option Cue
  | 0 => some .a
  | 1 => some .b
  | _ => none

def Mode.code : Mode → Nat
  | .work => 0
  | .performance => 1

def modeOf : Nat → Option Mode
  | 0 => some .work
  | 1 => some .performance
  | _ => none

def ModeOp.code : ModeOp → Nat
  | .enter => 0
  | .leave => 1
  | .toggle => 2

def modeOpOf : Nat → Option ModeOp
  | 0 => some .enter
  | 1 => some .leave
  | 2 => some .toggle
  | _ => none

def EventKind.code : EventKind → Nat
  | .press => 0
  | .release => 1
  | .hold => 2
  | .repeated => 3
  | .value => 4

def eventKindOf : Nat → Option EventKind
  | 0 => some .press
  | 1 => some .release
  | 2 => some .hold
  | 3 => some .repeated
  | 4 => some .value
  | _ => none

def Trigger.code : Trigger → Nat
  | .press => 0
  | .release => 1
  | .hold => 2

def triggerOf : Nat → Option Trigger
  | 0 => some .press
  | 1 => some .release
  | 2 => some .hold
  | _ => none

def ApplyPoint.code : ApplyPoint → Nat
  | .now => 0
  | .cueA => 1
  | .cueB => 2

def applyPointOf : Nat → Option ApplyPoint
  | 0 => some .now
  | 1 => some .cueA
  | 2 => some .cueB
  | _ => none

def FeedbackKind.code : FeedbackKind → Nat
  | .posted => 0
  | .confirmed => 1

def feedbackKindOf : Nat → Option FeedbackKind
  | 0 => some .posted
  | 1 => some .confirmed
  | _ => none

def Privilege.code : Privilege → Nat
  | .nothing => 0
  | .show => 1
  | .config => 2

def privilegeOf : Nat → Option Privilege
  | 0 => some .nothing
  | 1 => some .show
  | 2 => some .config
  | _ => none

def Live.code : Live → Nat
  | .unknown => 0
  | .present => 1
  | .absent => 2

def Indicator.code : Indicator → Nat
  | .off => 0
  | .on => 1
  | .wait => 2
  | .ack => 3
  | .nack => 4

def Result.code : Result → Nat
  | .done => 0
  | .adjusted => 1
  | .accepted => 2
  | .busy => 3
  | .refusedLive => 4
  | .refusedPending => 5
  | .outOfRange => 6
  | .noSpace => 7
  | .checkFailed => 8
  | .checkRequired => 9
  | .notPermitted => 10
  | .unknownRequest => 11

def RackStatus.code : RackStatus → Nat
  | .notPresent => 0
  | .ok => 1
  | .noLoad => 2
  | .overtemp => 3
  | .breakerOpen => 4
  | .dimmerFault => 5

def rackStatusOf : Nat → Option RackStatus
  | 0 => some .notPresent
  | 1 => some .ok
  | 2 => some .noLoad
  | 3 => some .overtemp
  | 4 => some .breakerOpen
  | 5 => some .dimmerFault
  | _ => none

def FaultKind.code : FaultKind → Nat
  | .opened => 0
  | .corrupt => 1
  | .parity => 2

def Part.code : Part → Nat
  | .loading => 0
  | .running => 1
  | .unconfigured => 2

def Curve.code : Curve → Nat
  | .linear => 0
  | .square => 1
  | .switched => 2

def curveOf : Nat → Option Curve
  | 0 => some .linear
  | 1 => some .square
  | 2 => some .switched
  | _ => none

def MergeRule.code : MergeRule → Nat
  | .highest => 0
  | .latest => 1

def mergeRuleOf : Nat → Option MergeRule
  | 0 => some .highest
  | 1 => some .latest
  | _ => none

def LossAction.code : LossAction → Nat
  | .ignore => 0
  | .hold => 1
  | .safe => 2

def lossActionOf : Nat → Option LossAction
  | 0 => some .ignore
  | 1 => some .hold
  | 2 => some .safe
  | _ => none

/-- A master group: the master number, and NONE as 0xFF (R194). -/
def masterGroupOf (n : Nat) : Option (Option Master) :=
  if n = 0xFF then some none else (indexOf 4 n).map some

def masterGroupCode : Option Master → Nat
  | some m => m.val
  | none => 0xFF

def StoreState.code : StoreState → Nat
  | .idle => 0
  | .saving _ => 1
  | .verifying _ _ _ => 2

/-- The kind of an unrouted record, NEW_STATION as 5 (section 12.2). -/
def UnroutedKind.code : UnroutedKind → Nat
  | .event k => k.code
  | .newStation => 5

/-- The place of an owner's kind in Table 3-3. -/
def Owner.kindCode : Owner → Nat
  | .station _ _ => 0
  | .management => 1
  | .scenePlayer => 2

def ClaimKind.code : ClaimKind → Nat
  | .latched => 0
  | .momentary => 1
  | .timed _ => 2

/-! ### Window entries -/

/-- The action and its argument from their two codes (Table 2-2, R194). The argument of an action that takes none is not read. -/
def actionOf (action argument : Nat) : Option Action :=
  match action with
  | 0 => some .setLevel
  | 1 => some .toggle
  | 2 => some .clear
  | 3 => some .momentary
  | 4 => some .timed
  | 5 => some .raise
  | 6 => some .lower
  | 7 => some .fader
  | 8 => (indexOf 4 argument).map .master
  | 9 => (sceneOf argument).map .scene
  | 10 => some .sceneOff
  | 11 => (modeOpOf argument).map .mode
  | 12 => (cueOf argument).map .cue
  | _ => none

def Action.code : Action → Nat
  | .setLevel => 0
  | .toggle => 1
  | .clear => 2
  | .momentary => 3
  | .timed => 4
  | .raise => 5
  | .lower => 6
  | .fader => 7
  | .master _ => 8
  | .scene _ => 9
  | .sceneOff => 10
  | .mode _ => 11
  | .cue _ => 12

/-- The argument byte of a window, 0xFF for an action that takes none (R194). -/
def Action.argument : Action → Nat
  | .master m => m.val
  | .scene n => sceneNumber n
  | .mode op => op.code
  | .cue x => cueCode x
  | _ => 0xFF

/-- The target from its kind and argument (Table 2-2, R194). The argument of a target of NONE is not read. -/
def targetOf (kind argument : Nat) : Option Target :=
  match kind with
  | 0 => (circuitOf argument).map .offset
  | 1 => (indexOf 64 argument).map .group
  | 2 => some .none
  | _ => none

def Target.kindCode : Target → Nat
  | .offset _ => 0
  | .group _ => 1
  | .none => 2

/-- The target argument of a window, 0xFFFF for NONE (R194). -/
def Target.argument : Target → Nat
  | .offset c => circuitNumber c
  | .group g => g.val
  | .none => 0xFFFF

/-- R48, case 5: the quantities of a window brought into their ranges. -/
def clampWindow (f : WindowFields) : WindowFields :=
  { f with
    rowPitch := clamp 0 512 f.rowPitch
    level := clamp 0 1000 f.level
    step := clamp 1 250 f.step
    fade := clamp 0 6000 f.fade
    hold := clamp 1 7200 f.hold }

/-- R48, case 4: the station and control ranges of a window entry lie in their ranges, first not above last. -/
def windowRangesGood (f : WindowFields) : Bool :=
  1 ≤ f.stationFirst && f.stationFirst ≤ f.stationLast && f.stationLast ≤ Config.stationMax &&
    f.controlFirst ≤ f.controlLast && f.controlLast ≤ 31

/-- The window that an entry describes, with its quantities clamped and with the given enabled field; none when a reference or a
code of R48, case 4, is out of range (log entry 10 for the code of show_safe). -/
def windowOf (enabled : Bool) (f : WindowFields) : Option Window :=
  if windowRangesGood f then
    match triggerOf f.trigger, actionOf f.action f.argument, targetOf f.targetKind f.targetArg, windowLayerOf f.layer,
      applyPointOf f.apply, feedbackKindOf f.feedback, yesNoOf f.showSafe with
    | some trigger, some action, some target, some layer, some apply, some feedback, some showSafe =>
      let q := clampWindow f
      some
        { enabled := enabled, stationFirst := f.stationFirst, stationLast := f.stationLast,
          controlFirst := f.controlFirst, controlLast := f.controlLast, trigger := trigger, action := action,
          target := target, rowPitch := q.rowPitch, layer := layer, level := q.level, step := q.step, fade := q.fade,
          hold := q.hold, apply := apply, feedback := feedback, showSafe := showSafe }
    | _, _, _, _, _, _, _ => none
  else none

/-- The fields of a window as Table 12-7 lays them out. -/
def Window.fields (w : Window) : WindowFields where
  enabled := w.enabled.toNat
  stationFirst := w.stationFirst
  stationLast := w.stationLast
  controlFirst := w.controlFirst
  controlLast := w.controlLast
  trigger := w.trigger.code
  action := w.action.code
  targetKind := w.target.kindCode
  targetArg := w.target.argument
  rowPitch := w.rowPitch
  layer := w.layer.code
  level := w.level
  step := w.step
  fade := w.fade
  hold := w.hold
  apply := w.apply.code
  feedback := w.feedback.code
  argument := w.action.argument
  showSafe := w.showSafe.toNat

/-! ### Circuit entries -/

/-- R126, case 4: the quantities of a circuit entry clamped in the order of the rule. -/
def clampCircuit (f : CircuitFields) : CircuitFields :=
  let topSet := min f.topSet 1000
  { f with
    preheat := min (min f.preheat 200) topSet
    topSet := topSet
    switchPoint := clamp 1 1000 f.switchPoint
    egressLevel := min f.egressLevel 1000
    lossLevel := min f.lossLevel 1000
    defaultFade := min f.defaultFade 6000 }

/-- The attribute record that an entry describes, with its quantities clamped; none when a code of R126, case 3, names no value. -/
def attrOf (f : CircuitFields) : Option Attr :=
  match curveOf f.curve, masterGroupOf f.masterGroup, mergeRuleOf f.mergeRule, yesNoOf f.egress, lossActionOf f.lossAction with
  | some curve, some masterGroup, some mergeRule, some egress, some lossAction =>
    let q := clampCircuit f
    some
      { curve := curve, preheat := q.preheat, topSet := q.topSet, switchPoint := q.switchPoint, masterGroup := masterGroup,
        defaultFade := q.defaultFade, mergeRule := mergeRule, egress := egress, egressLevel := q.egressLevel,
        lossAction := lossAction, lossLevel := q.lossLevel }
  | _, _, _, _, _ => none

/-- The fields of an attribute record as Table 12-7 lays them out. -/
def Attr.fields (a : Attr) : CircuitFields where
  curve := a.curve.code
  preheat := a.preheat
  topSet := a.topSet
  switchPoint := a.switchPoint
  masterGroup := masterGroupCode a.masterGroup
  defaultFade := a.defaultFade
  mergeRule := a.mergeRule.code
  egress := a.egress.toNat
  egressLevel := a.egressLevel
  lossAction := a.lossAction.code
  lossLevel := a.lossLevel

/-! ### The settings entry -/

/-- R180, case 3: the quantities of a settings entry clamped. -/
def clampSettings (f : SettingsFields) : SettingsFields :=
  { f with
    lineLoss := clamp 5 100 f.lineLoss
    modeFade := min f.modeFade 6000
    recoveryFade := min f.recoveryFade 6000 }

/-- A power-on scene setting: 0 names none (R94). -/
def powerOnSceneOf (n : Nat) : Option (Option SceneNo) := if n = 0 then some none else (sceneOf n).map some

/-- The number of a power-on scene setting. -/
def powerOnSceneNumber : Option SceneNo → Nat
  | some n => sceneNumber n
  | none => 0

/-- The settings record that an entry describes, with its quantities clamped and with the given masks; none for a case of R180,
case 2. -/
def settingsOf (masks : Word) (f : SettingsFields) : Option Settings :=
  match powerOnSceneOf f.powerOnScene, yesNoOf f.learn, yesNoOf f.houseToCue with
  | some powerOnScene, some learn, some houseToCue =>
    let q := clampSettings f
    some
      { lineLoss := q.lineLoss, modeFade := q.modeFade, recoveryFade := q.recoveryFade, powerOnScene := powerOnScene,
        learn := learn, houseToCue := houseToCue, masks := masks }
  | _, _, _ => none

/-- The fields of a settings record as Table 12-7 lays them out. -/
def Settings.fields (t : Settings) : SettingsFields where
  lineLoss := t.lineLoss
  modeFade := t.modeFade
  recoveryFade := t.recoveryFade
  powerOnScene := powerOnSceneNumber t.powerOnScene
  learn := t.learn.toNat
  houseToCue := t.houseToCue.toNat

/-! ### Entries as bytes (Table 12-7) -/

/-- The 24 bytes of a window entry. -/
def windowBytes (f : WindowFields) : List Byte :=
  [byteOf f.enabled, byteOf f.stationFirst, byteOf f.stationLast, byteOf f.controlFirst, byteOf f.controlLast,
    byteOf f.trigger, byteOf f.action, byteOf f.targetKind] ++ be16 f.targetArg ++ be16 f.rowPitch ++ [byteOf f.layer] ++
    be16 f.level ++ [byteOf f.step] ++ be16 f.fade ++ be16 f.hold ++
    [byteOf f.apply, byteOf f.feedback, byteOf f.argument, byteOf f.showSafe]

/-- The window entry that 24 bytes spell. -/
def windowFieldsOf : List Byte → Option WindowFields
  | [en, s1, s2, c1, c2, tr, ac, tk, ta1, ta0, rp1, rp0, la, le1, le0, st, fa1, fa0, ho1, ho0, ap, fe, ar, sh] =>
    some
      { enabled := en.toNat, stationFirst := s1.toNat, stationLast := s2.toNat, controlFirst := c1.toNat,
        controlLast := c2.toNat, trigger := tr.toNat, action := ac.toNat, targetKind := tk.toNat,
        targetArg := ofBe16 ta1 ta0, rowPitch := ofBe16 rp1 rp0, layer := la.toNat, level := ofBe16 le1 le0,
        step := st.toNat, fade := ofBe16 fa1 fa0, hold := ofBe16 ho1 ho0, apply := ap.toNat, feedback := fe.toNat,
        argument := ar.toNat, showSafe := sh.toNat }
  | _ => none

/-- The 17 bytes of a circuit entry. -/
def circuitBytes (f : CircuitFields) : List Byte :=
  [byteOf f.curve] ++ be16 f.preheat ++ be16 f.topSet ++ be16 f.switchPoint ++ [byteOf f.masterGroup] ++
    be16 f.defaultFade ++ [byteOf f.mergeRule, byteOf f.egress] ++ be16 f.egressLevel ++ [byteOf f.lossAction] ++
    be16 f.lossLevel

/-- The circuit entry that 17 bytes spell. -/
def circuitFieldsOf : List Byte → Option CircuitFields
  | [cu, ph1, ph0, ts1, ts0, sp1, sp0, mg, df1, df0, mr, eg, el1, el0, la, ll1, ll0] =>
    some
      { curve := cu.toNat, preheat := ofBe16 ph1 ph0, topSet := ofBe16 ts1 ts0, switchPoint := ofBe16 sp1 sp0,
        masterGroup := mg.toNat, defaultFade := ofBe16 df1 df0, mergeRule := mr.toNat, egress := eg.toNat,
        egressLevel := ofBe16 el1 el0, lossAction := la.toNat, lossLevel := ofBe16 ll1 ll0 }
  | _ => none

/-- The 8 bytes of a settings entry before its mask word. -/
def settingsBytes (f : SettingsFields) : List Byte :=
  [byteOf f.lineLoss] ++ be16 f.modeFade ++ be16 f.recoveryFade ++
    [byteOf f.powerOnScene, byteOf f.learn, byteOf f.houseToCue]

/-- The settings entry that 8 bytes spell. -/
def settingsFieldsOf : List Byte → Option SettingsFields
  | [ll, mf1, mf0, rf1, rf0, ps, le, hc] =>
    some
      { lineLoss := ll.toNat, modeFade := ofBe16 mf1 mf0, recoveryFade := ofBe16 rf1 rf0, powerOnScene := ps.toNat,
        learn := le.toNat, houseToCue := hc.toNat }
  | _ => none

end Sys2Proof.Machine
end

