-- ==== Sys2Proof/Machine/Levels.lean ====
section
/-! DEFINITION. The Level Engine's work on one circuit: fades (R113, R115), masters (R117), trims (R120, R121) and curves (R122). -/

namespace Sys2Proof.Machine

/-- R117: the scaled level, C × M / 1000 rounded half up; C itself under the safety flag or without a master. -/
def scaledLevel (masters : Vector Nat 4) (e : EngineCircuit) : Nat :=
  if e.safety then e.level
  else match e.attr.masterGroup with
    | some m => (e.level * masters[m] + 500) / 1000
    | none => e.level

/-- R120, R121, Table 6-3: the level U given to the curve. -/
def trimmedLevel (a : Attr) (safety : Bool) (scaled : Nat) : Nat :=
  match a.curve with
  | .switched => if safety then scaled else min scaled a.topSet
  | .linear | .square =>
    if safety then max scaled a.preheat else max (min scaled a.topSet) (min a.preheat a.topSet)

/-- R122: the output code of a trimmed level. -/
def curveCode (a : Attr) (u : Nat) : Nat :=
  match a.curve with
  | .linear => (u * 65535 + 500) / 1000
  | .square => (u * u * 65535 + 500000) / 1000000
  | .switched => if a.switchPoint ≤ u then 65535 else 0

/-- R117 to R122: the output code of a circuit from its level, safety flag, attributes and master. -/
def outputCode (masters : Vector Nat 4) (e : EngineCircuit) : Nat :=
  curveCode e.attr (trimmedLevel e.attr e.safety (scaledLevel masters e))

/-- R123: the circuit with its output code recomputed. -/
def EngineCircuit.recoded (masters : Vector Nat 4) (e : EngineCircuit) : EngineCircuit :=
  { e with code := outputCode masters e }

/-- A publication (R64, R69): the new merged target and winning layer, and the fade time. -/
structure Publication where
  target : Nat
  winner : WinLayer
  fade : Nat
  deriving DecidableEq, Repr

/-- R64: the safety flag is set when the winning layer is SAFETY. -/
def Publication.safety (p : Publication) : Bool := p.winner == .safety

/-- R113: what a publication does to the fade record and the current level. The record is left as it is when it holds the target
already; otherwise a fade begins from the current level, or ends at once when it has no step. DESIGN CHOICE: this holds for a safety
write too, so a fade that is under way to the egress level runs on, although R162 says that the level takes it at once (log
entry 33). -/
def EngineCircuit.faded (p : Publication) (e : EngineCircuit) : EngineCircuit :=
  if p.target = e.fadeTarget then e
  else
    { e with
      fadeStart := e.level
      fadeTarget := p.target
      fadeSteps := 5 * p.fade
      fadeTaken := 0
      fadeActive := 0 < 5 * p.fade
      level := if 0 < 5 * p.fade then e.level else p.target }

/-- R112, R113: a publication taken on its circuit. -/
def EngineCircuit.published (masters : Vector Nat 4) (p : Publication) (e : EngineCircuit) : EngineCircuit :=
  EngineCircuit.recoded masters (EngineCircuit.faded p { e with target := p.target, safety := p.safety })

/-- num / den rounded half away from zero, for non-negative num (R115 applies the sign). -/
def roundHalfUp (num den : Nat) : Nat := (2 * num + den) / (2 * den)

/-- R115: start + q, where q is (target − start) × k / N rounded half away from zero. -/
def fadeLevel (start target k n : Nat) : Nat :=
  if start ≤ target then start + roundHalfUp ((target - start) * k) n
  else start - roundHalfUp ((start - target) * k) n

/-- R115: one step of the fade record. -/
def EngineCircuit.faderStep (e : EngineCircuit) : EngineCircuit :=
  if e.fadeActive then
    let k := e.fadeTaken + 1
    if k < e.fadeSteps then { e with fadeTaken := k, level := fadeLevel e.fadeStart e.fadeTarget k e.fadeSteps }
    else { e with fadeTaken := k, level := e.fadeTarget, fadeActive := false }
  else e

/-- R114: one expiry of the fade-step timer on one circuit; the code is recomputed when the current level changed. -/
def EngineCircuit.stepped (masters : Vector Nat 4) (e : EngineCircuit) : EngineCircuit :=
  if e.faderStep.level = e.level then e.faderStep else e.faderStep.recoded masters

/-- R128: the steps remaining of a fade. -/
def EngineCircuit.stepsLeft (e : EngineCircuit) : Nat := if e.fadeActive then e.fadeSteps - e.fadeTaken else 0

end Sys2Proof.Machine
end

