-- ==== Sys2Proof/Machine/Merge.lean ====
section
/-! DEFINITION. The Claim Table's work on one circuit: merge (R59, R60, R62), placement (R54 to R57) and removal (R58). -/

namespace Sys2Proof.Machine

/-- The rank of a layer: WORK, HOUSE, SCENE, lowest to highest (R59). -/
def Layer.rank : Layer → Nat := Layer.code

/-- The winning layer that a pooled layer gives. -/
def Layer.winner : Layer → WinLayer
  | .work => .work
  | .house => .house
  | .scene => .scene

/-- R59, R62: every claim is eligible, apart from WORK claims while the mode is PERFORMANCE. -/
def Claim.eligible (mode : Mode) (cl : Claim) : Bool := !(mode == .performance && cl.layer == .work)

/-- The highest layer at which a list holds a claim (R59). -/
def topLayer (l : List Claim) : Option Layer :=
  if l.any (·.layer == .scene) then some .scene
  else if l.any (·.layer == .house) then some .house
  else if l.any (·.layer == .work) then some .work
  else none

/-- R60: the target among the eligible claims of the winning layer, oldest first. -/
def pickLevel (rule : MergeRule) (l : List Claim) : Nat :=
  match rule with
  | .highest => l.foldl (fun m cl => max m cl.level) 0
  | .latest => (l.getLast?.map (·.level)).getD 0

/-- R59 with both safety slots empty: the target and winning layer of a claim list. -/
def mergeClaims (mode : Mode) (rule : MergeRule) (claims : List Claim) : Nat × WinLayer :=
  let eligible := claims.filter (·.eligible mode)
  match topLayer eligible with
  | some l => (pickLevel rule (eligible.filter (·.layer == l)), l.winner)
  | none => (0, .none)

/-- R59: the merged target and winning layer of a circuit. -/
def mergeCircuit (mode : Mode) (rule : MergeRule) (t : ClaimCircuit) : Nat × WinLayer :=
  match t.egress, t.loss with
  | some e, some l => (max e l, .safety)
  | some e, none => (e, .safety)
  | none, some l => (l, .safety)
  | none, none => mergeClaims mode rule t.claims

/-- Whether two claims share layer and owner, by which a claim is known on its circuit (R50). -/
def Claim.sameAs (cl other : Claim) : Bool := cl.layer == other.layer && cl.owner == other.owner

/-- The outcome of one placement (Table 3-4). -/
inductive Placement where
  | replaced
  | added
  | evicted
  | refusedList
  | refusedPool
  deriving DecidableEq, Repr

/-- Whether a placement was refused (R57). -/
def Placement.refused : Placement → Bool
  | .refusedList | .refusedPool => true
  | .replaced | .added | .evicted => false

/-- Table 3-4: which of the five things happens to a placement on a list, with the given number of free pool records. -/
def placementOf (free : Nat) (cl : Claim) (claims : List Claim) : Placement :=
  if claims.any (·.sameAs cl) then .replaced
  else if claims.length < Config.listMax then (if 0 < free then .added else .refusedPool)
  else if claims.any (·.layer.rank ≤ cl.layer.rank) then .evicted
  else .refusedList

/-- The circuit after a placement: R54 (the claim moves to the tail with the new fields), R55, R56 (the victim is the claim nearest
the head at or below the new layer), R57 (nothing changes), with the circuit entered into the open set by the placement's fade
time (R63). -/
def ClaimCircuit.placed (p : Placement) (cl : Claim) (t : ClaimCircuit) : ClaimCircuit :=
  match p with
  | .replaced => { t with claims := t.claims.eraseP (·.sameAs cl) ++ [cl], entry := some cl.fade }
  | .added => { t with claims := t.claims ++ [cl], entry := some cl.fade }
  | .evicted => { t with claims := t.claims.eraseP (·.layer.rank ≤ cl.layer.rank) ++ [cl], entry := some cl.fade }
  | .refusedList | .refusedPool => t

/-- R58: the circuit after every claim that satisfies `gone` is removed, head towards tail. The circuit's fade time in the set is
that of the removed claim nearest the tail; a circuit that loses no claim is not entered. -/
def ClaimCircuit.without (gone : Claim → Bool) (t : ClaimCircuit) : ClaimCircuit :=
  match (t.claims.filter gone).getLast? with
  | some last => { t with claims := t.claims.filter (fun cl => !gone cl), entry := some last.fade }
  | none => t

/-- Whether a claim is owned by any control of a station. -/
def Claim.ofStation (station : Nat) (cl : Claim) : Bool :=
  match cl.owner with
  | .station st _ => st == station
  | .management | .scenePlayer => false

/-- Whether a claim is marked EXPIRED (R71). -/
def Claim.expired (cl : Claim) : Bool := cl.kind == .timed 0

/-- R71: one expiry of the claim timer on one claim. -/
def Claim.counted (cl : Claim) : Claim :=
  match cl.kind with
  | .timed left => { cl with kind := .timed (left - 1) }
  | .latched | .momentary => cl

/-- Whether one expiry of the claim timer marks the claim EXPIRED now (R71). -/
def Claim.expiresNow (cl : Claim) : Bool := cl.kind == .timed 1

end Sys2Proof.Machine
end

