-- ==== Sys2Proof/Machine/Ops.lean ====
section
/-! DEFINITION. The named operations over the whole state that the commands share: tables, roster, outcomes, replies, the arbiter,
change sets, publications, placements, removals and safety writes. -/

namespace Sys2Proof.Machine

/-! ### Tables -/

/-- A table with every entry replaced by a function of its index and content. It is irreducible, so that no comparison of two states
unrolls a table; `getElem_mapTable` says what it holds. -/
@[irreducible] def mapTable {n : Nat} {α β : Type} (f : Fin n → α → β) (v : Vector α n) : Vector β n :=
  ⟨⟨List.zipWith f (List.finRange n) v.toArray.toList⟩, by simp⟩

/-- All circuits in ascending order (`mem_allCircuits`). -/
@[irreducible] def allCircuits : List Circuit := List.finRange 512

/-- What the Claim Table holds for a circuit. -/
def State.circ (s : State) (c : Circuit) : ClaimCircuit := s.claims.circuits[c]

/-- What the Level Engine holds for a circuit. -/
def State.eng (s : State) (c : Circuit) : EngineCircuit := s.engine.circuits[c]

/-- Whether the part is in RUNNING or UNCONFIGURED: outside LOADING (R171). -/
def State.active (s : State) : Bool := s.part != .loading

/-! ### The roster -/

/-- The roster entry of a station number (R1). -/
def State.entryOf (station : Nat) (s : State) : Option RosterEntry := s.line.roster.find? (·.station == station)

/-- Whether a station has a roster entry. -/
def State.enrolled (station : Nat) (s : State) : Bool := (s.entryOf station).isSome

/-- The roster with the entry of one station changed. -/
def State.modifyEntry (station : Nat) (f : RosterEntry → RosterEntry) (s : State) : State :=
  { s with line := { s.line with roster := s.line.roster.map fun e => if e.station = station then f e else e } }

/-! ### Outcomes (R154) -/

/-- Whether an outcome for a station control is taken: the station has a roster entry and the control lies below its control
count (R154). -/
def State.hears (station control : Nat) (s : State) : Bool :=
  match s.entryOf station with
  | some e => control < e.controls
  | none => false

/-- R154: ACK (true) or NACK (false) into the one-shot slot of a station control, replacing a one-shot that waits there. -/
def State.outcome (station control : Nat) (ack : Bool) (s : State) : State :=
  if s.hears station control then
    { s with
      feedback :=
        { s.feedback with
          shots := s.feedback.shots.filter (fun o => !(o.station == station && o.control == control)) ++
            [{ station := station, control := control, ack := ack }] } }
  else s

/-- R147: how many LEVEL frames of a segment are outstanding. -/
def State.levelFramesOut (g : Segment) (s : State) : Nat :=
  (s.loop.outstanding.filter fun o => o.kind == .level && o.segment == g).length

/-- R155: the segment entries of a new confirmation record over a set of circuits, in segment order. -/
def State.segmentWaits (circuits : List Circuit) (s : State) : List SegmentWait :=
  ((List.finRange 4).filter fun g => circuits.any fun c => segmentOf c == g).map fun g =>
    { segment := g, pass := s.levelFramesOut g, state := .waiting, failures := 0 }

/-- R154, R155: a confirmation for a station control over the circuits that its change set published. -/
def State.confirm (station control : Nat) (circuits : List Circuit) (s : State) : State :=
  if s.hears station control then
    if circuits.isEmpty then s.outcome station control true
    else if s.part = .unconfigured then s.outcome station control false
    else
      let others := s.feedback.confirmations.filter fun r => !(r.station == station && r.control == control)
      if others.length < s.feedback.confirmations.length || s.feedback.confirmations.length < Config.confirmMax then
        { s with
          feedback :=
            { s.feedback with
              confirmations := others ++
                [{ station := station, control := control, segments := s.segmentWaits circuits }] } }
      else s.outcome station control true
  else s

/-- R35, R88, R91: the outcome of work that was not refused: ACK when POSTED, a confirmation when CONFIRMED. -/
def State.accept (station control : Nat) (feedback : FeedbackKind) (published : List Circuit) (s : State) : State :=
  match feedback with
  | .posted => s.outcome station control true
  | .confirmed => s.confirm station control published

/-- The outcome of work on circuits: NACK when refused, otherwise as `State.accept`. -/
def State.settle (station control : Nat) (feedback : FeedbackKind) (refused : Bool) (published : List Circuit) (s : State) :
    State :=
  if refused then s.outcome station control false else s.accept station control feedback published

/-! ### Requests in progress and replies (R182, R184, R14) -/

/-- The tag of the request in progress of a station (R182). -/
def State.tagOf (station : Nat) (s : State) : Option Nat := (s.mgmt.requests.find? (·.station == station)).map (·.tag)

/-- R184: a station's request in progress ends. -/
def State.endRequest (station : Nat) (s : State) : State :=
  { s with mgmt := { s.mgmt with requests := s.mgmt.requests.filter (·.station != station) } }

/-- R182: a request in progress starts for a station, holding its tag. -/
def State.beginRequest (station tag : Nat) (s : State) : State :=
  { s with mgmt := { s.mgmt with requests := s.mgmt.requests ++ [{ station := station, tag := tag }] } }

/-- R14: a reply into the reply slot of a station, or discarded with the request in progress when the station has no roster
entry. DESIGN CHOICE: the roster is read at the completion alone, so the reply to a request that was unfinished when its station was
deleted and enrolled again goes into the new entry's slot (log entry 31). -/
def State.putReply (station : Nat) (r : Reply) (s : State) : State :=
  if s.enrolled station then s.modifyEntry station fun e => { e with slot := some r }
  else if station = Config.serviceStation then { s with line := { s.line with serviceSlot := some r } }
  else s.endRequest station

/-- R184: the completion of a station's request: its reply holds the request's tag, the result and the payload. -/
def State.complete (station : Nat) (result : Result) (payload : List Byte) (s : State) : State :=
  match s.tagOf station with
  | some tag => s.putReply station { tag := tag, result := result, payload := payload }
  | none => s

/-- The result of a request that was carried out: ADJUSTED when a quantity was clamped (Table 11-2). -/
def doneOr (adjusted : Bool) : Result := if adjusted then .adjusted else .done

/-! ### The arbiter (R66 to R68) -/

/-- R66: a request joins the waiting order at the tail. -/
def State.request (r : Request) (s : State) : State := { s with claims := { s.claims with order := s.claims.order ++ [r] } }

/-- R68: the waiting requests that satisfy `gone` are withdrawn; the others keep their order. -/
def State.withdraw (gone : Request → Bool) (s : State) : State :=
  { s with claims := { s.claims with order := s.claims.order.filter fun r => !gone r } }

/-- R67: the request that the arbiter would grant now: the head of the waiting order while no change set is open and the part is
outside LOADING. -/
def State.grantable (s : State) : Option Request :=
  if s.active && s.claims.openSet.isNone then s.claims.order.head? else none

/-- R67: the granted request leaves the waiting order. -/
def State.takeHead (s : State) : State := { s with claims := { s.claims with order := s.claims.order.tail } }

/-- Whether the absence request of a station waits (Table 1-2). -/
def State.absenceWaiting (station : Nat) (s : State) : Bool := s.claims.order.contains (.absence station)

/-! ### Publications (R64, R69, R112) -/

/-- R59: the merged target and winning layer of a circuit as its list, slots, merge rule and the mode stand now. -/
def State.mergeOf (c : Circuit) (s : State) : Nat × WinLayer :=
  mergeCircuit s.cues.mode (s.eng c).attr.mergeRule (s.circ c)

/-- R64, R69: the publication of a circuit that is merged again with a fade time: none when target and winning layer equal the
values held. -/
def State.remerge (c : Circuit) (fade : Nat) (s : State) : Option Publication :=
  if s.mergeOf c = ((s.circ c).target, (s.circ c).winner) then none
  else some { target := (s.mergeOf c).1, winner := (s.mergeOf c).2, fade := fade }

/-- R61: the held values of a circuit take those of its publication. -/
def ClaimCircuit.held (p : Option Publication) (t : ClaimCircuit) : ClaimCircuit :=
  match p with
  | some p => { t with target := p.target, winner := p.winner }
  | none => t

/-- R112: the publications of one delivery, one for each circuit that has one, taken together by the Claim Table's held values and
by the Level Engine. -/
def State.deliver (pub : Circuit → Option Publication) (s : State) : State :=
  { s with
    claims := { s.claims with circuits := mapTable (fun c t => t.held (pub c)) s.claims.circuits }
    engine :=
      { s.engine with
        circuits :=
          mapTable
            (fun c e =>
              match pub c with
              | some p => e.published s.engine.masters p
              | none => e)
            s.engine.circuits } }

/-! ### Change sets (R63 to R65) -/

/-- R63: a circuit is entered into the open set with a fade time, overwriting the one it had. -/
def State.enter (which : Circuit → Bool) (fade : Nat) (s : State) : State :=
  { s with
    claims :=
      { s.claims with
        circuits := mapTable (fun c t => if which c then { t with entry := some fade } else t) s.claims.circuits } }

/-- R64: the publication that the close of the open set makes for a circuit. -/
def State.closing (s : State) (c : Circuit) : Option Publication :=
  match (s.circ c).entry with
  | some fade => s.remerge c fade
  | none => none

/-- R65: the circuits that the close of the open set publishes, ascending. -/
def State.publishedAtClose (s : State) : List Circuit := allCircuits.filter fun c => (s.closing c).isSome

/-- No circuit is entered and no set is open. -/
def State.emptySet (s : State) : State :=
  { s with
    claims := { s.claims with openSet := none, circuits := mapTable (fun _ t => { t with entry := none }) s.claims.circuits } }

/-- R64: the open set closes: its circuits are merged again, those that changed are published in one delivery, and the set is
closed. -/
def State.closeSet (s : State) : State := (s.deliver s.closing).emptySet

/-! ### Placements and removals (R54 to R58) -/

/-- Table 3-4: what happens to a placement on a circuit now. -/
def State.placementOn (c : Circuit) (cl : Claim) (s : State) : Placement :=
  placementOf s.claims.poolFree cl (s.circ c).claims

/-- R54 to R57: one placement on a circuit: its list, the pool's free records, its entry in the open set, and CLAIM_POOL_FULL when
it is refused for the pool. -/
def State.placeOne (c : Circuit) (cl : Claim) (s : State) : State :=
  State.reportIf (s.placementOn c cl == .refusedPool) .claimPoolFull
    { s with
      claims :=
        { s.claims with
          poolFree := if s.placementOn c cl = .added then s.claims.poolFree - 1 else s.claims.poolFree
          circuits := s.claims.circuits.set c ((s.circ c).placed (s.placementOn c cl) cl) } }

/-- What a work on claims reports (R65): whether any placement was refused, and the circuits that it entered into the set. -/
structure WorkReport where
  refused : Bool
  touched : List Circuit
  deriving DecidableEq, Repr

/-- R57: placements one circuit after another; a refusal does not stop those after it. -/
def State.placeEach : List (Circuit × Claim) → State → WorkReport × State
  | [], s => ({ refused := false, touched := [] }, s)
  | (c, cl) :: rest, s =>
    let refused := (s.placementOn c cl).refused
    let later := State.placeEach rest (s.placeOne c cl)
    ({ refused := refused || later.1.refused, touched := if refused then later.1.touched else c :: later.1.touched }, later.2)

/-- How many claims a removal takes from all circuits. -/
def State.removedCount (gone : Circuit → Claim → Bool) (s : State) : Nat :=
  (allCircuits.map fun c => ((s.circ c).claims.filter (gone c)).length).sum

/-- The circuits that a removal takes a claim from, ascending. -/
def State.removedFrom (gone : Circuit → Claim → Bool) (s : State) : List Circuit :=
  allCircuits.filter fun c => (s.circ c).claims.any (gone c)

/-- R58: every claim that satisfies `gone` leaves its list, its record returns to the pool, and its circuit is entered into the
open set with the claim's own fade time. -/
def State.removeWhere (gone : Circuit → Claim → Bool) (s : State) : State :=
  { s with
    claims :=
      { s.claims with
        poolFree := s.claims.poolFree + s.removedCount gone
        circuits := mapTable (fun c t => t.without (gone c)) s.claims.circuits } }

/-! ### Safety writes (R69) -/

/-- The two safety slots of a circuit (R53). -/
inductive Slot where
  | egress
  | loss
  deriving DecidableEq, Repr

/-- What a slot of a circuit holds. -/
def ClaimCircuit.slot (k : Slot) (t : ClaimCircuit) : Option Nat :=
  match k with
  | .egress => t.egress
  | .loss => t.loss

/-- The circuit with a slot set to new content. -/
def ClaimCircuit.setSlot (k : Slot) (content : Option Nat) (t : ClaimCircuit) : ClaimCircuit :=
  match k with
  | .egress => { t with egress := content }
  | .loss => { t with loss := content }

/-- R69, first part: the named slot of every named circuit is set to its new content. `write c` is none for a circuit that the
write does not name. -/
def State.writeSlots (k : Slot) (write : Circuit → Option (Option Nat)) (s : State) : State :=
  { s with
    claims :=
      { s.claims with
        circuits :=
          mapTable
            (fun c t =>
              match write c with
              | some content => t.setSlot k content
              | none => t)
            s.claims.circuits } }

/-- R69: a safety write: the slots are set, each named circuit is merged again, and those that changed are published with the
write's fade time in one delivery. It opens no change set and leaves the waiting order as it is. -/
def State.safetyWrite (k : Slot) (write : Circuit → Option (Option Nat)) (fade : Nat) (s : State) : State :=
  let s1 := s.writeSlots k write
  s1.deliver fun c => if (write c).isSome then s1.remerge c fade else none

/-- The write of a release: every circuit whose slot holds a level, emptied (R163, R166). -/
def State.emptyHeldSlots (k : Slot) (s : State) (c : Circuit) : Option (Option Nat) :=
  if ((s.circ c).slot k).isSome then some none else none

/-! ### Recalls in flight and guarded scenes (R84, R78) -/

/-- Whether a pending record is of action SCENE. -/
def Pending.isScene (p : Pending) : Bool :=
  match p.work with
  | .scene _ => true
  | .claim _ _ _ | .sceneOff => false

/-- Whether a pending record names a scene (R78). -/
def Pending.names (n : SceneNo) (p : Pending) : Bool := p.work == .scene n

/-- R84, R90: a recall is in flight: one on its own, or an open cue that holds a SCENE record. -/
def State.recallInFlight (s : State) : Bool :=
  match s.claims.openSet with
  | some (.recall _) => true
  | some (.cue w) => w.records.any (·.record.isScene)
  | none => false

/-- The records that cues have taken and not completed: those of waiting cue requests and of the open cue (R101, R110). -/
def State.takenRecords (s : State) : List Pending :=
  (s.claims.order.flatMap fun r =>
    match r with
    | .cue _ records _ => records
    | _ => []) ++
  (match s.claims.openSet with
    | some (.cue w) => w.records.map (·.record)
    | _ => [])

/-- R78: a scene is named by a deferred action that is pending or taken by a cue. -/
def State.sceneGuarded (n : SceneNo) (s : State) : Bool :=
  s.cues.pendings.any (·.names n) || s.takenRecords.any (·.names n)

/-- R176: whether the store is BUSY with a SAVE or VERIFY. -/
def State.storeBusy (s : State) : Bool := s.store.state != .idle

/-- R191: whether a restart is pending. -/
def State.restartPending (s : State) : Bool := !s.mgmt.restartSet.isEmpty

/-- R46: the group member places in use. -/
def State.groupPlacesUsed (s : State) : Nat := (s.route.groups.toList.map (·.length)).sum

/-- R77: the scene entry places in use. -/
def State.scenePlacesUsed (s : State) : Nat := (s.player.scenes.toList.map (·.entries.length)).sum

end Sys2Proof.Machine
end

