-- ==== Sys2Proof/Machine/ClaimActions.lean ====
section
/-! DEFINITION. Claim actions (R34 to R42) and the other work that the arbiter grants in one step: absence (R10), station removal
(R20), expiry (R72), SET_LEVEL (R73), RELEASE_LAYER (R74) and merge-rule requests (R75); and the claim timer (R71). -/

namespace Sys2Proof.Machine

/-- R32: the target set of a resolved target as it stands now. -/
def State.targets (t : TargetRef) (s : State) : List Circuit :=
  match t with
  | .circuit c => [c]
  | .group g => s.route.groups[g]

/-- The claim of a station control at a layer of a circuit, if it holds one there (R50). -/
def State.ownClaim (station control : Nat) (layer : Layer) (c : Circuit) (s : State) : Option Claim :=
  (s.circ c).claims.find? fun cl => cl.layer == layer && cl.owner == .station station control

/-- R41: the present level of RAISE and LOWER: the owner's own claim, or else the held merged target. -/
def State.presentLevel (station control : Nat) (layer : Layer) (c : Circuit) (s : State) : Nat :=
  match s.ownClaim station control layer c with
  | some cl => cl.level
  | none => (s.circ c).target

/-- R42: a fader's claim level, v × level / 1000 rounded half up. -/
def faderLevel (value level : Nat) : Nat := (value * level + 500) / 1000

/-- A claim that a window places (section 2.7). -/
def windowClaim (station control : Nat) (window : WindowIndex) (layer : Layer) (kind : ClaimKind) (level fade : Nat) : Claim :=
  { layer := layer, owner := .station station control, window := some window, kind := kind, level := level, fade := fade }

/-- Whether a station is ABSENT now (R39). -/
def State.absent (station : Nat) (s : State) : Bool :=
  match s.entryOf station with
  | some e => e.live == .absent
  | none => false

/-- Claims of one kind, level and fade on every target circuit. -/
def State.placeOnAll (station control : Nat) (window : WindowIndex) (layer : Layer) (kind : ClaimKind) (fade : Nat)
    (level : Circuit → Nat) (targets : List Circuit) (s : State) : WorkReport × State :=
  s.placeEach (targets.map fun c => (c, windowClaim station control window layer kind (level c) fade))

/-- A removal on the target circuits, with its report. -/
def State.removeOnAll (gone : Claim → Bool) (targets : List Circuit) (s : State) : WorkReport × State :=
  ({ refused := false, touched := s.removedFrom fun c cl => targets.contains c && gone cl },
    s.removeWhere fun c cl => targets.contains c && gone cl)

/-- R36 to R42: the work of a claim action of a station control, through a window, at a layer, on its target set. -/
def State.applyWork (station control : Nat) (window : WindowIndex) (layer : Layer) (work : ClaimWork) (targets : List Circuit)
    (s : State) : WorkReport × State :=
  let mine : Claim → Bool := fun cl => cl.layer == layer && cl.owner == .station station control
  match work with
  | .setLevel level fade => s.placeOnAll station control window layer .latched fade (fun _ => level) targets
  | .toggle level fade =>
    let lit : Claim → Bool := fun cl => mine cl && cl.window == some window
    if targets.any fun c => (s.circ c).claims.any lit then s.removeOnAll lit targets
    else s.placeOnAll station control window layer .latched fade (fun _ => level) targets
  | .clear => s.removeOnAll (fun cl => cl.layer == layer) targets
  | .press level fade =>
    if s.absent station then ({ refused := true, touched := [] }, s)
    else s.placeOnAll station control window layer .momentary fade (fun _ => level) targets
  | .release => s.removeOnAll (fun cl => mine cl && cl.kind == .momentary) targets
  | .timed level fade hold => s.placeOnAll station control window layer (.timed hold) fade (fun _ => level) targets
  | .raise step fade =>
    s.placeOnAll station control window layer .latched fade
      (fun c => min 1000 (s.presentLevel station control layer c + step)) targets
  | .lower step fade =>
    s.placeOnAll station control window layer .latched fade
      (fun c => s.presentLevel station control layer c - step) targets
  | .fader value level fade =>
    if value = 0 then s.removeOnAll mine targets
    else s.placeOnAll station control window layer .latched fade (fun _ => faderLevel value level) targets

/-- R34, R35: a granted claim action: its target set is completed, the roster entry checked, the work done, the set closed, and the
outcome given. -/
def State.grantClaimAction (a : ClaimAction) (s : State) : State :=
  if s.enrolled a.station then
    let targets := s.targets a.target
    let done := s.applyWork a.station a.control a.window a.layer a.work targets
    done.2.closeSet.settle a.station a.control a.feedback (targets.isEmpty || done.1.refused) done.2.publishedAtClose
  else s.closeSet

/-- CLAIM_ACTION_GRANT (R34, R67). -/
def State.claimActionGrant (s : State) : State :=
  match s.grantable with
  | some (.claimAction a) => s.takeHead.grantClaimAction a
  | _ => s

/-- R10: a granted absence request. -/
def State.grantAbsence (station : Nat) (s : State) : State :=
  let s1 := s.modifyEntry station fun e => { e with live := .absent }
  let s2 := s1.removeWhere fun _ cl => cl.ofStation station && cl.kind == .momentary
  let s3 := { s2 with
    feedback := { s2.feedback with confirmations := s2.feedback.confirmations.filter (·.station != station) } }
  (s3.report .stationMissing).closeSet

/-- ABSENCE_GRANT (R10, R67). -/
def State.absenceGrant (s : State) : State :=
  match s.grantable with
  | some (.absence station) => s.takeHead.grantAbsence station
  | _ => s

/-- STATION_REMOVAL_GRANT (R20, R67): every pooled claim owned by any control of the station is removed. -/
def State.stationRemovalGrant (s : State) : State :=
  match s.grantable with
  | some (.removal station) => (s.takeHead.removeWhere fun _ cl => cl.ofStation station).closeSet
  | _ => s

/-- R71: one expiry of the claim timer on every circuit. -/
def State.countTimers (s : State) : State :=
  { s with
    claims :=
      { s.claims with circuits := mapTable (fun _ t => { t with claims := t.claims.map Claim.counted }) s.claims.circuits } }

/-- Whether an expiry of the claim timer marks at least one claim EXPIRED (R72). -/
def State.marksExpired (s : State) : Bool := allCircuits.any fun c => (s.circ c).claims.any (·.expiresNow)

/-- CLAIM_TIMER_EXPIRY (R71, R72): the timer runs while the part is RUNNING or UNCONFIGURED. -/
def State.claimTimerExpiry (s : State) : State :=
  if s.active then
    if s.marksExpired && !s.claims.order.contains .expiry then s.countTimers.request .expiry else s.countTimers
  else s

/-- EXPIRY_GRANT (R72, R67): every claim that is EXPIRED at the grant is removed. -/
def State.expiryGrant (s : State) : State :=
  match s.grantable with
  | some .expiry => (s.takeHead.removeWhere fun _ cl => cl.expired).closeSet
  | _ => s

/-- R73: the claim that SET_LEVEL places. -/
def managementClaim (layer : Layer) (level fade : Nat) : Claim :=
  { layer := layer, owner := .management, window := none, kind := .latched, level := level, fade := fade }

/-- R73: a granted SET_LEVEL. -/
def State.grantSetLevel (sender : Nat) (c : Circuit) (layer : Layer) (level fade : Nat) (adjusted : Bool) (s : State) : State :=
  match s.cues.mode with
  | .performance => s.closeSet.complete sender .notPermitted []
  | .work =>
    let cl := managementClaim layer level fade
    (s.placeOne c cl).closeSet.complete sender (if (s.placementOn c cl).refused then .noSpace else doneOr adjusted) []

/-- SET_LEVEL_GRANT (R73, R67). -/
def State.setLevelGrant (s : State) : State :=
  match s.grantable with
  | some (.setLevel sender c layer level fade adjusted) => s.takeHead.grantSetLevel sender c layer level fade adjusted
  | _ => s

/-- The claims that RELEASE_LAYER names (R74). -/
def inLayerRange (layer : Layer) (first last : Circuit) (c : Circuit) (cl : Claim) : Bool :=
  decide (first ≤ c) && decide (c ≤ last) && cl.layer == layer

/-- R74: a granted RELEASE_LAYER. -/
def State.grantReleaseLayer (sender : Nat) (layer : Layer) (first last : Circuit) (s : State) : State :=
  (s.removeWhere (inLayerRange layer first last)).closeSet.complete sender .done
    (be16 (s.removedCount (inLayerRange layer first last)))

/-- RELEASE_LAYER_GRANT (R74, R67). -/
def State.releaseLayerGrant (s : State) : State :=
  match s.grantable with
  | some (.releaseLayer sender layer first last) => s.takeHead.grantReleaseLayer sender layer first last
  | _ => s

/-- R75: a granted merge-rule request enters its circuit with its default fade, closes, and gives the WRITE_CIRCUIT reply. -/
def State.grantMergeRule (sender : Nat) (c : Circuit) (adjusted : Bool) (s : State) : State :=
  ((s.enter (· == c) (s.eng c).attr.defaultFade).closeSet).complete sender (doneOr adjusted) []

/-- MERGE_RULE_GRANT (R75, R67). -/
def State.mergeRuleGrant (s : State) : State :=
  match s.grantable with
  | some (.mergeRule sender c adjusted) => s.takeHead.grantMergeRule sender c adjusted
  | _ => s

/-- CLAIM_ACTION_GRANT (R34). -/
def execClaimActionGrant (s : State) : Host.Outcome State Fault Refusal := .next s.claimActionGrant

/-- ABSENCE_GRANT (R10). -/
def execAbsenceGrant (s : State) : Host.Outcome State Fault Refusal := .next s.absenceGrant

/-- STATION_REMOVAL_GRANT (R20). -/
def execStationRemovalGrant (s : State) : Host.Outcome State Fault Refusal := .next s.stationRemovalGrant

/-- CLAIM_TIMER_EXPIRY (R71). -/
def execClaimTimerExpiry (s : State) : Host.Outcome State Fault Refusal := .next s.claimTimerExpiry

/-- EXPIRY_GRANT (R72). -/
def execExpiryGrant (s : State) : Host.Outcome State Fault Refusal := .next s.expiryGrant

/-- SET_LEVEL_GRANT (R73). -/
def execSetLevelGrant (s : State) : Host.Outcome State Fault Refusal := .next s.setLevelGrant

/-- RELEASE_LAYER_GRANT (R74). -/
def execReleaseLayerGrant (s : State) : Host.Outcome State Fault Refusal := .next s.releaseLayerGrant

/-- MERGE_RULE_GRANT (R75). -/
def execMergeRuleGrant (s : State) : Host.Outcome State Fault Refusal := .next s.mergeRuleGrant

end Sys2Proof.Machine
end

