-- ==== Sys2Proof/Machine/Scenes.lean ====
section
/-! DEFINITION. The Scene Player (Chapter 4): recall, release, capture, and the scene edits that management asks for. -/

namespace Sys2Proof.Machine

/-! ### Recall -/

/-- R86: the claim that a recall places for an entry. -/
def sceneClaim (level fade : Nat) : Claim :=
  { layer := .scene, owner := .scenePlayer, window := none, kind := .latched, level := level, fade := fade }

/-- Whether a scene's content names a circuit. -/
def SceneRecord.namesCircuit (r : SceneRecord) (c : Circuit) : Bool := r.entries.any (·.circuit == c)

/-- R85: the claims that the removal pass takes: every SCENE-layer claim on a circuit that the scene does not name. -/
def outsideScene (r : SceneRecord) (c : Circuit) (cl : Claim) : Bool := cl.layer == .scene && !r.namesCircuit c

/-- R86, R87: the placement pass over the entries, ended by the first placement that is refused for the pool. -/
def State.placementPass (fade : Nat) : List SceneEntry → State → WorkReport × State
  | [], s => ({ refused := false, touched := [] }, s)
  | e :: rest, s =>
    if s.placementOn e.circuit (sceneClaim e.level fade) = .refusedPool then
      ({ refused := true, touched := [] }, s.placeOne e.circuit (sceneClaim e.level fade))
    else
      let later := State.placementPass fade rest (s.placeOne e.circuit (sceneClaim e.level fade))
      ({ later.1 with touched := e.circuit :: later.1.touched }, later.2)

/-- R85, R86: the two passes of a recall of a content. -/
def State.recallPasses (r : SceneRecord) (s : State) : WorkReport × State :=
  let placed := (s.removeWhere (outsideScene r)).placementPass r.fade r.entries
  ({ placed.1 with touched := s.removedFrom (outsideScene r) ++ placed.1.touched }, placed.2)

/-- The Scene Player with its active scene set (R82). -/
def State.setActive (n : Option SceneNo) (s : State) : State := { s with player := { s.player with active := n } }

/-- R84: a recall is granted: the content is read, the passes run, and the recall is in flight with its set open. -/
def State.grantRecall (n : SceneNo) (asker : Option Asker) (s : State) : State :=
  let content := s.player.scenes[n]
  let done := s.recallPasses content
  { done.2 with
    claims :=
      { done.2.claims with
        openSet := some (.recall { scene := n, content := content, asker := asker, refused := done.1.refused }) } }

/-- RECALL_GRANT (R84 to R87, R67). -/
def State.recallGrant (s : State) : State :=
  match s.grantable with
  | some (.recall n asker) => s.takeHead.grantRecall n asker
  | _ => s

/-- R88: a recall completes: the active scene is set, the set closes and publishes, and the outcome goes to the owner, if there is
one. -/
def State.completeRecall (w : RecallWork) (s : State) : State :=
  let closed := (s.setActive (some w.scene)).closeSet
  match w.asker with
  | some a => closed.settle a.station a.control a.feedback w.refused s.publishedAtClose
  | none => closed

/-- RECALL_COMPLETION (R88). -/
def State.recallCompletion (s : State) : State :=
  match s.claims.openSet with
  | some (.recall w) => s.completeRecall w
  | _ => s

/-! ### Release -/

/-- The claims that a release takes (R91). -/
def inSceneLayer (_ : Circuit) (cl : Claim) : Bool := cl.layer == .scene

/-- R91: the removal of every SCENE-layer claim, with the active scene none. -/
def State.releaseScenes (s : State) : State := (s.removeWhere inSceneLayer).setActive none

/-- R91: a granted release. -/
def State.grantRelease (a : Asker) (s : State) : State :=
  s.releaseScenes.closeSet.accept a.station a.control a.feedback s.releaseScenes.publishedAtClose

/-- RELEASE_GRANT (R91, R67). -/
def State.releaseGrant (s : State) : State :=
  match s.grantable with
  | some (.release a) => s.takeHead.grantRelease a
  | _ => s

/-! ### The waiting recall or release of a window (R83) -/

/-- Who asked for a recall or release that came from a window. -/
def Request.windowAsker : Request → Option Asker
  | .recall _ asker => asker
  | .release a => some a
  | _ => none

/-- R83: a recall or release is handed to the Scene Player: it takes the place of the one that waits, whose owner is given NACK,
or joins the waiting order. -/
def State.handScene (r : Request) (s : State) : State :=
  match s.claims.order.findSome? Request.windowAsker with
  | some old =>
    State.outcome old.station old.control false
      { s with
        claims := { s.claims with order := s.claims.order.map fun q => if q.windowAsker.isSome then r else q } }
  | none => s.request r

/-! ### Capture -/

/-- The scene store with one scene replaced. -/
def State.setScene (n : SceneNo) (r : SceneRecord) (s : State) : State :=
  { s with player := { s.player with scenes := s.player.scenes.set n r } }

/-- R93: the target that a circuit's claims ask for, with both safety slots taken as empty. -/
def State.claimTarget (c : Circuit) (s : State) : Nat :=
  (mergeClaims s.cues.mode (s.eng c).attr.mergeRule (s.circ c).claims).1

/-- R93: the entries of a capture: each circuit whose claim-derived target is above 0. -/
def State.captured (s : State) : List SceneEntry :=
  (allCircuits.filter fun c => 0 < s.claimTarget c).map fun c => { circuit := c, level := s.claimTarget c }

/-- R93: a granted capture. Its change set changes no list and closes empty. -/
def State.grantCapture (sender : Nat) (n : SceneNo) (s : State) : State :=
  if s.storeBusy then s.closeSet.complete sender .busy []
  else if s.sceneGuarded n then s.closeSet.complete sender .refusedPending []
  else if (Config.scenePlaces - s.scenePlacesUsed) + s.player.scenes[n].entries.length < s.captured.length then
    s.closeSet.complete sender .noSpace []
  else
    ((s.setScene n { s.player.scenes[n] with entries := s.captured }).closeSet).complete sender .done
      (be16 s.captured.length)

/-- CAPTURE_GRANT (R93, R67). -/
def State.captureGrant (s : State) : State :=
  match s.grantable with
  | some (.capture sender n) => s.takeHead.grantCapture sender n
  | _ => s

/-! ### Scene edits (R79 to R81) and CAPTURE_SCENE (R92) -/

/-- R79, cases 2 and 3: why an edit of a scene is refused now. -/
def State.sceneEditRefusal (n : SceneNo) (s : State) : Option Result :=
  if s.storeBusy || s.recallInFlight then some .busy
  else if s.sceneGuarded n then some .refusedPending
  else none

/-- R80: a new entry inserted in ascending circuit order. -/
def insertEntry (e : SceneEntry) : List SceneEntry → List SceneEntry
  | [] => [e]
  | x :: rest => if e.circuit < x.circuit then e :: x :: rest else x :: insertEntry e rest

/-- R80: SET_SCENE_ENTRY on a scene and circuit that were found good. -/
def State.storeSceneEntry (sender : Nat) (n : SceneNo) (c : Circuit) (level : Nat) (s : State) : State :=
  let r := s.player.scenes[n]
  let e : SceneEntry := { circuit := c, level := min level 1000 }
  if r.namesCircuit c then
    (s.setScene n { r with entries := r.entries.map fun x => if x.circuit = c then e else x }).complete sender
      (doneOr (1000 < level)) []
  else if s.scenePlacesUsed < Config.scenePlaces then
    (s.setScene n { r with entries := insertEntry e r.entries }).complete sender (doneOr (1000 < level)) []
  else s.complete sender .noSpace []

/-- R79, R80: SET_SCENE_ENTRY taken. -/
def State.reqSetSceneEntry (sender scene circuit level : Nat) (s : State) : State :=
  match sceneOf scene, circuitOf circuit with
  | some n, some c =>
    match s.sceneEditRefusal n with
    | some refusal => s.complete sender refusal []
    | none => s.storeSceneEntry sender n c level
  | _, _ => s.complete sender .outOfRange []

/-- R79, R81: CLEAR_SCENE_ENTRY taken. -/
def State.reqClearSceneEntry (sender scene circuit : Nat) (s : State) : State :=
  match sceneOf scene, circuitOf circuit with
  | some n, some c =>
    match s.sceneEditRefusal n with
    | some refusal => s.complete sender refusal []
    | none =>
      let r := s.player.scenes[n]
      (s.setScene n { r with entries := r.entries.filter (·.circuit != c) }).complete sender .done []
  | _, _ => s.complete sender .outOfRange []

/-- R79, R81: SET_SCENE_FADE taken. -/
def State.reqSetSceneFade (sender scene fade : Nat) (s : State) : State :=
  match sceneOf scene with
  | some n =>
    match s.sceneEditRefusal n with
    | some refusal => s.complete sender refusal []
    | none => (s.setScene n { s.player.scenes[n] with fade := min fade 6000 }).complete sender (doneOr (6000 < fade)) []
  | none => s.complete sender .outOfRange []

/-- R92: CAPTURE_SCENE taken; its reply waits for the grant. -/
def State.reqCaptureScene (sender scene : Nat) (s : State) : State :=
  match sceneOf scene with
  | some n =>
    if s.storeBusy || s.recallInFlight then s.complete sender .busy []
    else s.request (.capture sender n)
  | none => s.complete sender .outOfRange []

/-- RECALL_GRANT (R84). -/
def execRecallGrant (s : State) : Host.Outcome State Fault Refusal := .next s.recallGrant

/-- RECALL_COMPLETION (R88). -/
def execRecallCompletion (s : State) : Host.Outcome State Fault Refusal := .next s.recallCompletion

/-- RELEASE_GRANT (R91). -/
def execReleaseGrant (s : State) : Host.Outcome State Fault Refusal := .next s.releaseGrant

/-- CAPTURE_GRANT (R93). -/
def execCaptureGrant (s : State) : Host.Outcome State Fault Refusal := .next s.captureGrant

end Sys2Proof.Machine
end

