-- ==== Sys2Proof/Machine/Cues.lean ====
section
/-! DEFINITION. The Cue and Mode Unit (Chapter 5): the pending list, cue events, the applying of cues, and the show mode. -/

namespace Sys2Proof.Machine

/-! ### The pending list -/

/-- Whether two pending records share owner, window and cue (R95). -/
def Pending.sameAs (p q : Pending) : Bool :=
  p.station == q.station && p.control == q.control && p.window == q.window && p.cue == q.cue

/-- The pending list replaced. -/
def State.setPendings (l : List Pending) (s : State) : State := { s with cues := { s.cues with pendings := l } }

/-- R96: a deferred record offered by the Route Resolver. WAIT changes no slot (R154). -/
def State.enterPending (p : Pending) (s : State) : State :=
  if !s.route.windows[p.window].enabled then s.outcome p.station p.control false
  else if s.cues.pendings.any (·.sameAs p) then
    s.setPendings (s.cues.pendings.filter (fun q => !q.sameAs p) ++ [p])
  else if s.cues.pendings.length < Config.pendingMax then s.setPendings (s.cues.pendings ++ [p])
  else (s.report .pendingFull).outcome p.station p.control false

/-- NACK to the owner of each record, in list order. -/
def State.nackEach : List Pending → State → State
  | [], s => s
  | p :: rest, s => State.nackEach rest (s.outcome p.station p.control false)

/-- The pending records that satisfy `gone` leave the list without being applied, each given NACK (R97, R98). -/
def State.dropPendings (gone : Pending → Bool) (s : State) : State :=
  (s.setPendings (s.cues.pendings.filter fun p => !gone p)).nackEach (s.cues.pendings.filter gone)

/-! ### Cue events (R99 to R101) -/

/-- R101: the records that a cue event takes join a waiting request of its cue, after that request's records. -/
def Request.joined (x : Cue) (records : List Pending) (fires : List Fire) : Request → Request
  | .cue y rs fs => if y = x then .cue y (rs ++ records) (fs ++ fires) else .cue y rs fs
  | r => r

/-- Whether a request is a cue request for a cue. -/
def Request.isCue (x : Cue) : Request → Bool
  | .cue y _ _ => y == x
  | _ => false

/-- R101: a cue event for a cue. `fire` is the station whose FIRE_CUE made it, if one did; its reply comes at once when the event
takes no record (R100). -/
def State.cueEvent (x : Cue) (fire : Option Nat) (s : State) : State :=
  let taken := s.cues.pendings.filter (·.cue == x)
  if taken.isEmpty then
    match fire with
    | some sender => s.complete sender .done (be16 0)
    | none => s
  else
    let fires := fire.toList.map fun sender => { station := sender, count := taken.length : Fire }
    let s1 := s.setPendings (s.cues.pendings.filter (·.cue != x))
    if s1.claims.order.any (·.isCue x) then
      { s1 with claims := { s1.claims with order := s1.claims.order.map (Request.joined x taken fires) } }
    else s1.request (.cue x taken fires)

/-- The debounced contact of a cue (R99). -/
def State.cueContact (x : Cue) (s : State) : Bool :=
  match x with
  | .a => s.cues.cueA
  | .b => s.cues.cueB

/-- The debounced contact of a cue set (R99). -/
def State.setCueContact (x : Cue) (b : Bool) (s : State) : State :=
  match x with
  | .a => { s with cues := { s.cues with cueA := b } }
  | .b => { s with cues := { s.cues with cueB := b } }

/-- CUE_INPUT_DEBOUNCED (R99): a change of the debounced state is recorded, and an assertion is a cue event. The contacts are not
watched in LOADING, and a state that the contact holds already is no change. -/
def State.cueInput (x : Cue) (asserted : Bool) (s : State) : State :=
  if s.active && s.cueContact x != asserted then
    if asserted then (s.setCueContact x true).cueEvent x none else s.setCueContact x false
  else s

/-! ### Applying a cue (R102, R103) -/

/-- R102: the work of one taken record, in place. -/
def State.applyRecord (p : Pending) (s : State) : AppliedResult × State :=
  if s.enrolled p.station then
    match p.work with
    | .claim layer work target =>
      let targets := s.targets target
      let done := s.applyWork p.station p.control p.window layer work targets
      (.applied (targets.isEmpty || done.1.refused) done.1.touched, done.2)
    | .scene n =>
      let done := s.recallPasses s.player.scenes[n]
      (.applied done.1.refused done.1.touched, done.2.setActive (some n))
    | .sceneOff => (.applied false (s.removedFrom inSceneLayer), s.releaseScenes)
  else (.skipped, s)

/-- R102: the taken records applied one after another. -/
def State.applyRecords : List Pending → State → List Applied × State
  | [], s => ([], s)
  | p :: rest, s =>
    let one := s.applyRecord p
    let later := State.applyRecords rest one.2
    ({ record := p, result := one.1 } :: later.1, later.2)

/-- R102: a granted cue request; its set stays open until the cue completes. -/
def State.grantCue (x : Cue) (records : List Pending) (fires : List Fire) (s : State) : State :=
  let done := s.applyRecords records
  { done.2 with
    claims := { done.2.claims with openSet := some (.cue { cue := x, records := done.1, fires := fires }) } }

/-- CUE_GRANT (R102, R67). -/
def State.cueGrant (s : State) : State :=
  match s.grantable with
  | some (.cue x records fires) => s.takeHead.grantCue x records fires
  | _ => s

/-- R103: the outcomes of the applied records, in list order. A confirmation is over the circuits that the record's own work entered
into the set and that were published at the close. -/
def State.settleRecords (published : List Circuit) : List Applied → State → State
  | [], s => s
  | a :: rest, s =>
    State.settleRecords published rest
      (match a.result with
        | .skipped => s
        | .applied refused touched =>
          s.settle a.record.station a.record.control a.record.feedback refused (published.filter touched.contains))

/-- R103: the replies to the FIRE_CUE requests that fired the cue. -/
def State.replyFires : List Fire → State → State
  | [], s => s
  | f :: rest, s => State.replyFires rest (s.complete f.station .done (be16 f.count))

/-- R103: a cue completes. -/
def State.completeCue (w : CueWork) (s : State) : State :=
  (s.closeSet.settleRecords s.publishedAtClose w.records).replyFires w.fires

/-- CUE_COMPLETION (R103). -/
def State.cueCompletion (s : State) : State :=
  match s.claims.openSet with
  | some (.cue w) => s.completeCue w
  | _ => s

/-! ### Show mode (R105 to R108) -/

/-- R106: the mode that a MODE operation decides from the mode held. -/
def ModeOp.decide (op : ModeOp) (held : Mode) : Mode :=
  match op, held with
  | .enter, _ => .performance
  | .leave, _ => .work
  | .toggle, .work => .performance
  | .toggle, .performance => .work

/-- R108: the change to a mode within its set: nothing when it is held already; otherwise the mode takes the new value and every
circuit that holds a WORK claim is entered with the mode fade. -/
def State.changeMode (m : Mode) (s : State) : State :=
  if m = s.cues.mode then s
  else
    State.enter (fun c => (s.circ c).claims.any (·.layer == .work)) s.mgmt.settings.modeFade
      { s with cues := { s.cues with mode := m } }

/-- R106: a granted MODE action; the pin is read again. -/
def State.grantModeAction (op : ModeOp) (station control : Nat) (s : State) : State :=
  if s.cues.pin then s.closeSet.outcome station control false
  else (s.changeMode (op.decide s.cues.mode)).closeSet.outcome station control true

/-- R107: a granted SET_MODE. -/
def State.grantModeSet (sender : Nat) (m : Mode) (s : State) : State := (s.changeMode m).closeSet.complete sender .done []

/-- MODE_CHANGE_GRANT (R106 to R108, R67). -/
def State.modeChangeGrant (s : State) : State :=
  match s.grantable with
  | some (.modeAction op station control) => s.takeHead.grantModeAction op station control
  | some (.modeSet sender m) => s.takeHead.grantModeSet sender m
  | _ => s

/-! ### Management requests (R98, R100, R107) -/

/-- R107: SET_MODE taken: the pin at once, the mode by a request. -/
def State.reqSetMode (sender mode pin : Nat) (s : State) : State :=
  match modeOf mode, yesNoOf pin with
  | some m, some b => State.request (.modeSet sender m) { s with cues := { s.cues with pin := b } }
  | _, _ => s.complete sender .outOfRange []

/-- R100: FIRE_CUE taken. -/
def State.reqFireCue (sender cue : Nat) (s : State) : State :=
  match cueOf cue with
  | some x => s.cueEvent x (some sender)
  | none => s.complete sender .outOfRange []

/-- R98: the records that a CLEAR_PENDING selector names: A is 0, B is 1, BOTH is 2 (R194). -/
def selectorOf : Nat → Option (Pending → Bool)
  | 0 => some fun p => p.cue == .a
  | 1 => some fun p => p.cue == .b
  | 2 => some fun _ => true
  | _ => none

/-- R98: CLEAR_PENDING taken. -/
def State.reqClearPending (sender selector : Nat) (s : State) : State :=
  match selectorOf selector with
  | some gone => (s.dropPendings gone).complete sender .done (be16 (s.cues.pendings.filter gone).length)
  | none => s.complete sender .outOfRange []

/-- CUE_INPUT_DEBOUNCED (R99). -/
def execCueInputDebounced (x : Cue) (asserted : Bool) (s : State) : Host.Outcome State Fault Refusal :=
  .next (s.cueInput x asserted)

/-- CUE_GRANT (R102). -/
def execCueGrant (s : State) : Host.Outcome State Fault Refusal := .next s.cueGrant

/-- CUE_COMPLETION (R103). -/
def execCueCompletion (s : State) : Host.Outcome State Fault Refusal := .next s.cueCompletion

/-- MODE_CHANGE_GRANT (R108). -/
def execModeChangeGrant (s : State) : Host.Outcome State Fault Refusal := .next s.modeChangeGrant

end Sys2Proof.Machine
end

