-- ==== Sys2Proof/Machine/SafetyPaths.lean ====
section
/-! DEFINITION. The safety paths (Chapter 9): the EGRESS input and the line-loss declarations. -/

namespace Sys2Proof.Machine

/-- The debounced EGRESS state set (R161). -/
def State.setEgress (b : Bool) (s : State) : State := { s with claims := { s.claims with egressAsserted := b } }

/-- R162: what an assertion writes: every egress-flagged circuit's EGRESS slot at its egress level. -/
def State.egressLevels (s : State) (c : Circuit) : Option (Option Nat) :=
  if (s.eng c).attr.egress then some (some (s.eng c).attr.egressLevel) else none

/-- R162: the assertion write, with fade 0. -/
def State.egressWrite (s : State) : State := s.safetyWrite .egress s.egressLevels 0

/-- EGRESS_ASSERTION (R161, R162): a change of the debounced state from released to asserted, outside LOADING. -/
def State.egressAssertion (s : State) : State :=
  if s.active && !s.claims.egressAsserted then (s.setEgress true).egressWrite else s

/-- EGRESS_RELEASE (R161, R163): a change from asserted to released, outside LOADING. -/
def State.egressRelease (s : State) : State :=
  if s.active && s.claims.egressAsserted then
    (s.setEgress false).safetyWrite .egress (s.emptyHeldSlots .egress) s.mgmt.settings.recoveryFade
  else s

/-- R164: what a LINE_LOST declaration writes: the held merged target for HOLD, the loss level for SAFE. -/
def State.lossLevels (s : State) (c : Circuit) : Option (Option Nat) :=
  match (s.eng c).attr.lossAction with
  | .ignore => none
  | .hold => some (some (s.circ c).target)
  | .safe => some (some (s.eng c).attr.lossLevel)

/-- The line-loss timer started or restarted with the line-loss time of the settings, where it runs at all: in RUNNING, with a
roster entry and line loss not declared (R17). -/
def State.startLossTimer (s : State) : State :=
  if s.part = .running ∧ s.line.roster ≠ [] ∧ s.line.lossDeclared = false then
    { s with line := { s.line with lossTimer := some s.mgmt.settings.lineLoss } }
  else s

/-- R18: LINE_LOST is declared; the timer stops (R17), the flag is reported, and the LOSS slots are written (R164). -/
def State.declareLost (s : State) : State :=
  let s1 := { s with line := { s.line with lossDeclared := true, lossTimer := none } }
  (s1.report .lineLost).safetyWrite .loss s.lossLevels 0

/-- R18, R166: LINE_OK: line loss is not declared, and every LOSS slot is emptied with the recovery fade. -/
def State.declareOk (s : State) : State :=
  let s1 := { s with line := { s.line with lossDeclared := false } }
  s1.safetyWrite .loss (s.emptyHeldSlots .loss) s.mgmt.settings.recoveryFade

/-- LINE_LOSS_TIMER_EXPIRY (R18): a stopped timer does not expire. -/
def State.lineLossTimerExpiry (s : State) : State :=
  match s.line.lossTimer with
  | some _ => s.declareLost
  | none => s

/-- R8, R17, R18: the arrival of a valid answer from an enrolled station, at the timer and the declaration. -/
def State.lineHeard (s : State) : State :=
  if s.line.lossDeclared then s.declareOk.startLossTimer else s.startLossTimer

/-- LINE_LOSS_TIMER_EXPIRY (R18). -/
def execLineLossTimerExpiry (s : State) : Host.Outcome State Fault Refusal := .next s.lineLossTimerExpiry

/-- EGRESS_ASSERTION (R162). -/
def execEgressAssertion (s : State) : Host.Outcome State Fault Refusal := .next s.egressAssertion

/-- EGRESS_RELEASE (R163). -/
def execEgressRelease (s : State) : Host.Outcome State Fault Refusal := .next s.egressRelease

end Sys2Proof.Machine
end

