-- ==== Sys2Proof/Machine/Engine.lean ====
section
/-! DEFINITION. The Level Engine's fade-step timer (R114), and WRITE_CIRCUIT (R126, R127). -/

namespace Sys2Proof.Machine

/-- FADE_STEP_TIMER_EXPIRY (R114): the timer runs while the part is RUNNING or UNCONFIGURED. -/
def State.fadeStep (s : State) : State :=
  if s.active then
    { s with
      engine := { s.engine with circuits := mapTable (fun _ e => e.stepped s.engine.masters) s.engine.circuits } }
  else s

/-- The attribute record of a circuit stored, and its output code recomputed (R126, and the first effect of R127). -/
def State.storeAttr (c : Circuit) (a : Attr) (s : State) : State :=
  { s with
    engine :=
      { s.engine with
        circuits := s.engine.circuits.set c (EngineCircuit.recoded s.engine.masters { s.eng c with attr := a }) } }

/-- A write that names one circuit. -/
def onlyCircuit (c : Circuit) (content : Option Nat) (k : Circuit) : Option (Option Nat) :=
  if k = c then some content else none

/-- R127, third effect: the EGRESS slot brought to agree with the new record while an assertion is in force. -/
def State.rewriteEgress (c : Circuit) (old new : Attr) (s : State) : State :=
  if s.claims.egressAsserted then
    if new.egress then s.safetyWrite .egress (onlyCircuit c (some new.egressLevel)) 0
    else if old.egress then s.safetyWrite .egress (onlyCircuit c none) s.mgmt.settings.recoveryFade
    else s
  else s

/-- R127: a WRITE_CIRCUIT that is stored. The reply waits for the merge-rule request when the rule has changed. -/
def State.storeCircuit (sender : Nat) (c : Circuit) (a : Attr) (adjusted : Bool) (s : State) : State :=
  let old := (s.eng c).attr
  let stored := s.storeAttr c a
  if a.mergeRule = old.mergeRule then (stored.rewriteEgress c old a).complete sender (doneOr adjusted) []
  else (stored.request (.mergeRule sender c adjusted)).rewriteEgress c old a

/-- R126: WRITE_CIRCUIT taken. -/
def State.reqWriteCircuit (sender circuit : Nat) (f : CircuitFields) (s : State) : State :=
  match circuitOf circuit with
  | none => s.complete sender .outOfRange []
  | some c =>
    if s.storeBusy || s.recallInFlight then s.complete sender .busy []
    else
      match attrOf f with
      | none => s.complete sender .outOfRange []
      | some a => s.storeCircuit sender c a (clampCircuit f != f)

/-- FADE_STEP_TIMER_EXPIRY (R114). -/
def execFadeStepTimerExpiry (s : State) : Host.Outcome State Fault Refusal := .next s.fadeStep

end Sys2Proof.Machine
end

