-- ==== Sys2Proof/Machine/Resolver.lean ====
section
/-! DEFINITION. The Route Resolver (Chapter 2): the intake queue, the window search, the checks, deferral, and the hand-offs; masters
(R43, R118, R119); and the unrouted queue (R197). -/

namespace Sys2Proof.Machine

/-! ### The intake queue and the unrouted queue -/

/-- R22: an event record offered to the intake queue. -/
def State.offerEvent (r : EventRecord) (s : State) : State :=
  if s.route.intake.length < Config.intakeMax then
    { s with route := { s.route with intake := s.route.intake ++ [r] } }
  else if r.kind = .press then (s.report .intakeOverflow).outcome r.station r.control false
  else s.report .intakeOverflow

/-- R197: a record offered to the unrouted queue. -/
def State.offerUnrouted (u : Unrouted) (s : State) : State :=
  if s.mgmt.unrouted.contains u then s
  else if s.mgmt.unrouted.length < Config.unroutedMax then
    { s with mgmt := { s.mgmt with unrouted := s.mgmt.unrouted ++ [u] } }
  else { s with mgmt := { s.mgmt with unrouted := s.mgmt.unrouted.tail ++ [u] } }

/-! ### The window search (R25) -/

/-- The event kind that a trigger names. -/
def Trigger.kind : Trigger → EventKind
  | .press => .press
  | .release => .release
  | .hold => .hold

/-- R25: whether a window's action takes an event kind. -/
def Window.takes (w : Window) (k : EventKind) : Bool :=
  match w.action with
  | .momentary => k == .press || k == .release
  | .raise | .lower => k == .press || k == .repeated
  | .fader | .master _ => k == .value
  | .setLevel | .toggle | .clear | .timed | .scene _ | .sceneOff | .mode _ | .cue _ => k == w.trigger.kind

/-- Whether an enabled window's station and control ranges cover a station control (R25, R153). -/
def Window.covers (w : Window) (station control : Nat) : Bool :=
  w.enabled && decide (w.stationFirst ≤ station) && decide (station ≤ w.stationLast) &&
    decide (w.controlFirst ≤ control) && decide (control ≤ w.controlLast)

/-- R25: whether a window matches a record. -/
def Window.matchesRecord (w : Window) (r : EventRecord) : Bool := w.covers r.station r.control && w.takes r.kind

/-- The window of an index. -/
def State.window (i : WindowIndex) (s : State) : Window := s.route.windows[i]

/-- R25: the first window, in index order, that matches a record. -/
def State.searchWindow (r : EventRecord) (s : State) : Option WindowIndex :=
  (List.finRange 64).find? fun i => (s.window i).matchesRecord r

/-! ### Masters (R118) -/

/-- R118: a master value is written at once, and the codes of the circuits that it governs are recomputed. -/
def State.writeMaster (m : Master) (v : Nat) (s : State) : State :=
  { s with
    engine :=
      { masters := s.engine.masters.set m v
        circuits :=
          mapTable
            (fun _ e =>
              if e.attr.masterGroup = some m ∧ e.safety = false then e.recoded (s.engine.masters.set m v) else e)
            s.engine.circuits } }

/-- R119: SET_MASTER taken. -/
def State.reqSetMaster (sender master value : Nat) (s : State) : State :=
  match indexOf 4 master with
  | some m => (s.writeMaster m (min value 1000)).complete sender (doneOr (1000 < value)) []
  | none => s.complete sender .outOfRange []

/-! ### Resolution of a matched record -/

/-- The work of a claim action's window for a record of a kind and value (Table 2-3); none for the other actions. -/
def Window.claimWork (w : Window) (r : EventRecord) : Option ClaimWork :=
  match w.action with
  | .setLevel => some (.setLevel w.level w.fade)
  | .toggle => some (.toggle w.level w.fade)
  | .clear => some .clear
  | .momentary => some (if r.kind = .release then .release else .press w.level w.fade)
  | .timed => some (.timed w.level w.fade w.hold)
  | .raise => some (.raise w.step w.fade)
  | .lower => some (.lower w.step w.fade)
  | .fader => some (.fader r.value w.level w.fade)
  | .master _ | .scene _ | .sceneOff | .mode _ | .cue _ => none

/-- R29: whether the privilege check refuses a window for a privilege. -/
def Window.needsPrivilege (w : Window) : Bool :=
  match w.action with
  | .mode _ | .cue _ => true
  | _ => false

/-- R30: the records that are exempt from both show checks: a RELEASE taken by a MOMENTARY window, and a VALUE of 0 taken by a FADER
window. -/
def Window.exempt (w : Window) (r : EventRecord) : Bool :=
  (w.action == .momentary && r.kind == .release) || (w.action == .fader && r.kind == .value && r.value == 0)

/-- R30: whether the show checks refuse a record in PERFORMANCE. -/
def Window.refusedInShow (w : Window) (r : EventRecord) : Bool :=
  !w.exempt r && (!w.showSafe || ((w.claimWork r).isSome && w.layer == .work))

/-- R31, R32: the resolved target of a claim action; none when the target is NONE or the OFFSET circuit lies above 512. -/
def Window.resolveTarget (w : Window) (r : EventRecord) : Option TargetRef :=
  match w.target with
  | .offset base =>
    (circuitOf (circuitNumber base + (r.station - w.stationFirst) * w.rowPitch + (r.control - w.controlFirst))).map .circuit
  | .group g => some (.group g)
  | .none => none

/-- The cue that an apply point names. -/
def ApplyPoint.cue : ApplyPoint → Option Cue
  | .now => none
  | .cueA => some .a
  | .cueB => some .b

/-- R33: whether a claim work honours the window's apply point. -/
def ClaimWork.honoursApplyPoint : ClaimWork → Bool
  | .setLevel _ _ | .toggle _ _ | .clear | .timed _ _ _ => true
  | .press _ _ | .release | .raise _ _ | .lower _ _ | .fader _ _ _ => false

/-- R33: the cue at which a claim action takes effect, none for NOW. -/
def State.claimApplyPoint (w : Window) (work : ClaimWork) (s : State) : Option Cue :=
  if work.honoursApplyPoint then
    match w.apply.cue with
    | some x => some x
    | none =>
      if s.cues.mode = .performance ∧ s.mgmt.settings.houseToCue = true ∧ w.layer = .house then some .b else none
  else none

/-- R33, R34: a claim action that passed its checks: a request at the arbiter, or a deferred record. -/
def State.handClaim (i : WindowIndex) (w : Window) (r : EventRecord) (work : ClaimWork) (target : TargetRef) (s : State) :
    State :=
  match s.claimApplyPoint w work with
  | none =>
    s.request (.claimAction
      { station := r.station, control := r.control, window := i, layer := w.layer, work := work, target := target,
        feedback := w.feedback })
  | some x =>
    s.enterPending
      { station := r.station, control := r.control, window := i, cue := x, work := .claim w.layer work target,
        feedback := w.feedback }

/-- R33, R44: a SCENE or SCENE_OFF action: handed to the Scene Player at NOW, or a deferred record. -/
def State.handSceneAction (i : WindowIndex) (w : Window) (r : EventRecord) (work : PendingWork) (now : Request) (s : State) :
    State :=
  match w.apply.cue with
  | none => s.handScene now
  | some x =>
    s.enterPending
      { station := r.station, control := r.control, window := i, cue := x, work := work, feedback := w.feedback }

/-- R26, R33, R43 to R45: the action of a matched window that passed the privilege and show checks. -/
def State.act (i : WindowIndex) (w : Window) (r : EventRecord) (s : State) : State :=
  let asker : Asker := { station := r.station, control := r.control, feedback := w.feedback }
  match w.claimWork r, w.action with
  | some work, _ =>
    match w.resolveTarget r with
    | some target => s.handClaim i w r work target
    | none => s.outcome r.station r.control false
  | none, .master m => (s.writeMaster m r.value).outcome r.station r.control true
  | none, .scene n => s.handSceneAction i w r (.scene n) (.recall n (some asker))
  | none, .sceneOff => s.handSceneAction i w r .sceneOff (.release asker)
  | none, .mode op =>
    if s.cues.pin then s.outcome r.station r.control false
    else s.request (.modeAction op r.station r.control)
  | none, .cue x => (s.cueEvent x none).outcome r.station r.control true
  | none, _ => s

/-- R29, R30: whether a matched record is refused by the privilege or the show check. -/
def State.refusedMatch (w : Window) (privilege : Privilege) (r : EventRecord) (s : State) : Bool :=
  (w.needsPrivilege && privilege == .nothing) || (s.cues.mode == .performance && w.refusedInShow r)

/-- R27: a record that no window matches. -/
def State.unrouted (r : EventRecord) (s : State) : State :=
  let s1 :=
    if s.mgmt.settings.learn then s.offerUnrouted { station := r.station, control := r.control, kind := .event r.kind } else s
  if r.kind = .press then s1.outcome r.station r.control false else s1

/-- R25 to R28: the resolution of one taken record. -/
def State.resolve (r : EventRecord) (s : State) : State :=
  match s.entryOf r.station with
  | none => s
  | some e =>
    match s.searchWindow r with
    | none => s.unrouted r
    | some i =>
      if s.refusedMatch (s.window i) e.privilege r then s.outcome r.station r.control false
      else s.act i (s.window i) r

/-- Whether a waiting request is one that the Resolver holds: its claim action (R34), or its MODE action (R45). -/
def Request.heldByResolver : Request → Bool
  | .claimAction _ => true
  | .modeAction _ _ _ => true
  | _ => false

/-- R23: whether the Resolver may take a record. -/
def State.resolverFree (s : State) : Bool :=
  s.active && !s.claims.order.any Request.heldByResolver && !s.recallInFlight

/-- TAKE_EVENT_RECORD (R23). -/
def State.takeEventRecord (s : State) : State :=
  match s.route.intake with
  | [] => s
  | r :: rest =>
    if s.resolverFree then State.resolve r { s with route := { s.route with intake := rest } } else s

/-- TAKE_EVENT_RECORD (R23). -/
def execTakeEventRecord (s : State) : Host.Outcome State Fault Refusal := .next s.takeEventRecord

end Sys2Proof.Machine
end

