-- ==== Sys2Proof/Machine/Indicators.lean ====
section
/-! DEFINITION. The Feedback Tracker (Chapter 8): steady codes (R152, R153), the codes of a POLL (R151), and the settling of
confirmation records (R156, R157). -/

namespace Sys2Proof.Machine

/-- R153: the governing window of a station control: the enabled window of lowest index that covers it. -/
def State.governing (station control : Nat) (s : State) : Option WindowIndex :=
  (List.finRange 64).find? fun i => (s.window i).covers station control

/-- R152, case 1: the control has a pending record, a record taken by a cue that has not completed, or a confirmation record. -/
def State.waits (station control : Nat) (s : State) : Bool :=
  let mine : Pending → Bool := fun p => p.station == station && p.control == control
  s.cues.pendings.any mine || s.takenRecords.any mine ||
    s.feedback.confirmations.any fun r => r.station == station && r.control == control

/-- R152, case 2: a pooled claim on any circuit is owned by the control. -/
def State.ownsClaim (station control : Nat) (s : State) : Bool :=
  allCircuits.any fun c => (s.circ c).claims.any fun cl => cl.owner == .station station control

/-- R152, cases 3 and 4: the governing window is a SCENE window whose argument is the active scene, or a MODE window while the mode is
PERFORMANCE. -/
def State.governsInForce (station control : Nat) (s : State) : Bool :=
  match s.governing station control with
  | some i =>
    match (s.window i).action with
    | .scene n => s.player.active == some n
    | .mode _ => s.cues.mode == .performance
    | _ => false
  | none => false

/-- R152: the steady code of a station control. -/
def State.steadyCode (station control : Nat) (s : State) : Indicator :=
  if s.waits station control then .wait
  else if s.ownsClaim station control then .on
  else if s.governsInForce station control then .on
  else .off

/-- R151: the code of a control in a POLL: the one-shot that waits, or else the steady code. -/
def State.pollCode (station control : Nat) (s : State) : Indicator :=
  match s.feedback.shots.find? fun o => o.station == station && o.control == control with
  | some o => if o.ack then .ack else .nack
  | none => s.steadyCode station control

/-- R151: the codes of a POLL to a station, one for each control below its control count. -/
def State.pollCodes (station controls : Nat) (s : State) : List Indicator :=
  (List.range controls).map fun k => s.pollCode station k

/-- R151: the one-shots that a POLL to a station carries leave their slots. -/
def State.takeShots (station controls : Nat) (s : State) : State :=
  { s with
    feedback :=
      { s.feedback with
        shots := s.feedback.shots.filter fun o => !(o.station == station && decide (o.control < controls)) } }

/-! ### Reports of LEVEL frames (R147, R156, R157) -/

/-- R156: a report of a LEVEL frame at one segment entry. -/
def SegmentWait.reported (g : Segment) (intact : Bool) (w : SegmentWait) : SegmentWait :=
  if w.segment = g ∧ w.state = .waiting then
    if 0 < w.pass then { w with pass := w.pass - 1 }
    else if intact then { w with state := .satisfied }
    else
      { w with
        failures := w.failures + 1
        state := if Config.failLimit ≤ w.failures + 1 then .failed else .waiting }
  else w

/-- R156: a report at one confirmation record. -/
def Confirmation.reported (g : Segment) (intact : Bool) (r : Confirmation) : Confirmation :=
  { r with segments := r.segments.map (SegmentWait.reported g intact) }

/-- R157: a segment entry is FAILED. -/
def Confirmation.failed (r : Confirmation) : Bool := r.segments.any (·.state == .failed)

/-- R157: whether a record settles: an entry is FAILED, or all are SATISFIED. -/
def Confirmation.settled (r : Confirmation) : Bool := r.failed || r.segments.all (·.state == .satisfied)

/-- R157: the outcomes of settled records, in list order. -/
def State.settleConfirmations : List Confirmation → State → State
  | [], s => s
  | r :: rest, s => State.settleConfirmations rest (s.outcome r.station r.control (!r.failed))

/-- R156, R157: a report of a LEVEL frame taken by the Feedback Tracker. -/
def State.levelReport (g : Segment) (intact : Bool) (s : State) : State :=
  let all := s.feedback.confirmations.map (Confirmation.reported g intact)
  State.settleConfirmations (all.filter (·.settled))
    { s with feedback := { s.feedback with confirmations := all.filter fun r => !r.settled } }

end Sys2Proof.Machine
end

