-- ==== Sys2Proof/Machine/Loop.lean ====
section
/-! DEFINITION. The Circuit Loop Controller (Chapter 7): the schedule, sending, returns and their checks, failure counts, the fault
record, and rack status. -/

namespace Sys2Proof.Machine

/-- The segment after one, from 3 back to 0 (R132). -/
def nextSegment (g : Segment) : Segment := g + 1

/-- The loop block replaced. -/
def State.withLoop (l : LoopBlock) (s : State) : State := { s with loop := l }

/-! ### The schedule (R132, R133) -/

/-- R132: the LEVEL frame of a segment falls due: it joins the waiting list unless one of the same segment waits already. -/
def LoopBlock.levelDue (g : Segment) (l : LoopBlock) : LoopBlock :=
  { l with
    waiting := if l.waiting.contains { kind := .level, segment := g } then l.waiting
      else l.waiting ++ [{ kind := .level, segment := g }]
    levelRotation := nextSegment g }

/-- LEVEL_SCHEDULE_TIMER_EXPIRY (R132): the timer runs while the part is RUNNING. -/
def State.levelSchedule (s : State) : State :=
  if s.part = .running then s.withLoop (s.loop.levelDue s.loop.levelRotation) else s

/-- STATUS_SCHEDULE_TIMER_EXPIRY (R133): nothing joins and the rotation stays while a STATUS frame waits. -/
def State.statusSchedule (s : State) : State :=
  if s.part = .running ∧ s.loop.waiting.any (·.kind == .status) = false then
    s.withLoop
      { s.loop with
        waiting := s.loop.waiting ++ [{ kind := .status, segment := s.loop.statusRotation }]
        statusRotation := nextSegment s.loop.statusRotation }
  else s

/-! ### Sending (R135 to R137) -/

/-- R136: the output codes of a segment's 128 circuits, in slot order. -/
def State.segmentCodes (g : Segment) (s : State) : List Word :=
  (allCircuits.filter fun c => segmentOf c == g).map fun c => BitVec.ofNat 16 (s.eng c).code

/-- R136, R137: the slots of a frame as it is built. -/
def State.frameSlots (d : DueFrame) (s : State) : List Word :=
  match d.kind with
  | .level => s.segmentCodes d.segment
  | .status => List.replicate 128 0

/-- R136, R137: the frame built for the head of the waiting list, with the next sequence number. -/
def State.builtFrame (d : DueFrame) (s : State) : LoopFrame :=
  { kind := d.kind, segment := d.segment, seq := s.loop.nextSeq, slots := s.frameSlots d }

/-- The outstanding entry of a frame: a STATUS frame keeps no copy of its slots (R137). -/
def LoopFrame.outstanding (f : LoopFrame) : Outstanding :=
  { kind := f.kind, segment := f.segment, seq := f.seq, sent := if f.kind = .level then f.slots else [], ended := false }

/-- FRAME_TRANSMIT_START (R135). -/
def State.transmitStart (s : State) : State :=
  match s.loop.waiting with
  | [] => s
  | d :: rest =>
    if s.part = .running ∧ s.loop.transmitter = none ∧ s.loop.outstanding.length < Config.outstandingMax then
      s.withLoop
        { s.loop with
          waiting := rest
          transmitter := some (s.builtFrame d)
          nextSeq := s.loop.nextSeq + 1
          outstanding := s.loop.outstanding ++ [(s.builtFrame d).outstanding] }
    else s

/-- FRAME_TRANSMIT_END (R135): the transmitter is idle, and the timeout of the frame begins if it is still outstanding. -/
def State.transmitEnd (s : State) : State :=
  match s.loop.transmitter with
  | some f =>
    s.withLoop
      { s.loop with
        transmitter := none
        outstanding := s.loop.outstanding.map fun o => if o.seq = f.seq then { o with ended := true } else o }
  | none => s

/-! ### The check of a return (R139 to R142) -/

/-- The outcome of an outstanding frame. A fault names a slot where the check found a damaged one. -/
inductive LoopVerdict where
  | intact
  | opened
  | corrupt (slot : Option Nat)
  | parity (slot : Nat)
  deriving DecidableEq, Repr

/-- What the slots of a received frame came to: all passed, with the bits that follow them, or the fault that ended the check. -/
inductive SlotCheck where
  | passed (rest : List Bool)
  | fault (v : LoopVerdict)
  deriving DecidableEq, Repr

/-- R141, R142: the slots examined in order, `n` of them still to come from slot `i` on. At each slot the parity is examined first,
then whether the value is good; a slot cut off before its last bit gives CORRUPT with no circuit. -/
def checkSlots (good : Nat → Word → Bool) : (n i : Nat) → List Bool → SlotCheck
  | 0, _, bits => .passed bits
  | n + 1, i, bits =>
    if bits.length < 17 then .fault (.corrupt none)
    else if !oddOnes (bits.take 17) then .fault (.parity i)
    else if !good i (wordOfBits (bits.take 16)) then .fault (.corrupt (some i))
    else checkSlots good n (i + 1) (bits.drop 17)

/-- R141, R142: whether a received slot value is good: equal to the code sent for LEVEL, not above 5 for STATUS. -/
def Outstanding.slotGood (o : Outstanding) (i : Nat) (w : Word) : Bool :=
  match o.kind with
  | .level => o.sent[i]? == some w
  | .status => w.toNat ≤ 5

/-- R140 to R142: the check of a received frame against an outstanding one: header, slots, then CRC. -/
def Outstanding.check (o : Outstanding) (received : List Bool) : LoopVerdict :=
  let bits := received.take Config.loopFrameBits
  if bits.take 24 ≠ (loopHeader o.kind o.segment o.seq).flatMap byteBits then .corrupt none
  else
    match checkSlots o.slotGood 128 0 (bits.drop 24) with
    | .fault v => v
    | .passed crcBits =>
      if crcBits = wordBits (crcOfBits (bits.take (Config.loopFrameBits - 16))) then .intact else .corrupt none

/-- The circuit of a slot of a segment (R130). -/
def circuitAt (g : Segment) (slot : Nat) : Option Circuit :=
  if slot < 128 then indexOf 512 (g.val * 128 + slot) else none

/-! ### Failure counts and the fault record (R144, R145) -/

/-- R144: the loop block after a fault of a kind, with the OPEN run given, and the fault recorded whole (R145). -/
def LoopBlock.failed (kind : FaultKind) (g : Segment) (circuit : Option Circuit) (openRun : Nat) (l : LoopBlock) : LoopBlock :=
  { l with
    failures := min 255 (l.failures + 1)
    openRun := openRun
    fault := some { kind := kind, segment := g, circuit := circuit, count := min 255 (l.failures + 1) } }

/-- R144, R145: the counts, the fault record and the flags at an outcome. -/
def State.countVerdict (g : Segment) (v : LoopVerdict) (s : State) : State :=
  match v with
  | .intact => s.withLoop { s.loop with failures := 0, openRun := 0 }
  | .corrupt slot => (s.withLoop (s.loop.failed .corrupt g (slot.bind (circuitAt g)) 0)).report .loopCorrupt
  | .parity slot => (s.withLoop (s.loop.failed .parity g (circuitAt g slot) 0)).report .loopParity
  | .opened =>
    (s.withLoop (s.loop.failed .opened g none (min 3 (s.loop.openRun + 1)))).reportIf (3 ≤ s.loop.openRun + 1) .loopOpen

/-- R144, R147: the outcome of a frame that has left the outstanding list: counts first, then the report of a LEVEL frame. -/
def State.frameOutcome (o : Outstanding) (v : LoopVerdict) (s : State) : State :=
  match o.kind with
  | .level => (s.countVerdict o.segment v).levelReport o.segment (v == .intact)
  | .status => s.countVerdict o.segment v

/-! ### Rack status (R146) -/

/-- The values of the slots of a frame, from the bits after its header. -/
def slotValues : Nat → List Bool → List Word
  | 0, _ => []
  | n + 1, bits => wordOfBits (bits.take 16) :: slotValues n (bits.drop 17)

/-- The status that a good STATUS frame gives for a circuit of its segment. -/
def slotStatus (values : List Word) (c : Circuit) : RackStatus :=
  ((values[c.val % 128]?).bind fun w => rackStatusOf w.toNat).getD .notPresent

/-- R146: whether any circuit of a segment satisfies a test. -/
def anyInSegment (g : Segment) (test : Circuit → Bool) : Bool := allCircuits.any fun c => segmentOf c == g && test c

/-- R146: whether a status is OVERTEMP, BREAKER_OPEN or DIMMER_FAULT. -/
def RackStatus.rackFault : RackStatus → Bool
  | .overtemp | .breakerOpen | .dimmerFault => true
  | .notPresent | .ok | .noLoad => false

/-- R146: a good STATUS return writes the segment's codes and reports the three flags, each once for the frame. -/
def State.writeStatus (g : Segment) (values : List Word) (s : State) : State :=
  let status : Circuit → RackStatus := slotStatus values
  let s1 := s.withLoop
    { s.loop with status := mapTable (fun c old => if segmentOf c = g then status c else old) s.loop.status }
  State.reportIf (anyInSegment g fun c => (s.eng c).attr.egress && status c != .ok) .egressFault
    (State.reportIf (anyInSegment g fun c => (status c).rackFault) .rackFault
      (State.reportIf (anyInSegment g fun c => status c == .noLoad) .lampFault s1))

/-! ### The commands -/

/-- RETURN_TIMEOUT (R138): the timeout of the oldest outstanding frame expires; it runs once the frame has been sent. -/
def State.returnTimeout (s : State) : State :=
  match s.loop.outstanding with
  | [] => s
  | o :: rest =>
    if o.ended then State.frameOutcome o .opened (s.withLoop { s.loop with outstanding := rest }) else s

/-- R139, R142: a received frame is checked against the oldest outstanding frame. -/
def State.takeReturn (o : Outstanding) (rest : List Outstanding) (bits : List Bool) (s : State) : State :=
  let s1 := State.frameOutcome o (o.check bits) (s.withLoop { s.loop with outstanding := rest })
  if o.kind = .status ∧ o.check bits = .intact then s1.writeStatus o.segment (slotValues 128 (bits.drop 24)) else s1

/-- LOOP_FRAME_RECEIVED (R139): discarded when nothing is outstanding, ignored outside RUNNING (R131). -/
def State.loopFrameReceived (bits : List Bool) (s : State) : State :=
  match s.loop.outstanding with
  | [] => s
  | o :: rest => if s.part = .running then s.takeReturn o rest bits else s

/-- LEVEL_SCHEDULE_TIMER_EXPIRY (R132). -/
def execLevelScheduleTimerExpiry (s : State) : Host.Outcome State Fault Refusal := .next s.levelSchedule

/-- STATUS_SCHEDULE_TIMER_EXPIRY (R133). -/
def execStatusScheduleTimerExpiry (s : State) : Host.Outcome State Fault Refusal := .next s.statusSchedule

/-- FRAME_TRANSMIT_START (R135). -/
def execFrameTransmitStart (s : State) : Host.Outcome State Fault Refusal := .next s.transmitStart

/-- FRAME_TRANSMIT_END (R135). -/
def execFrameTransmitEnd (s : State) : Host.Outcome State Fault Refusal := .next s.transmitEnd

/-- RETURN_TIMEOUT (R138). -/
def execReturnTimeout (s : State) : Host.Outcome State Fault Refusal := .next s.returnTimeout

/-- LOOP_FRAME_RECEIVED (R139). -/
def execLoopFrameReceived (bits : List Bool) (s : State) : Host.Outcome State Fault Refusal :=
  .next (s.loopFrameReceived bits)

end Sys2Proof.Machine
end

