-- ==== Sys2Proof/Machine/Reads.lean ====
section
/-! DEFINITION. The reads of management: READ_STATUS (R185, Table 12-8), READ_ENTRY (R186, Table 11-3) and READ_UNROUTED (R198). -/

namespace Sys2Proof.Machine

/-! ### READ_STATUS -/

/-- Table 12-8, offsets 7 to 11: the last result of the store. -/
def LastResult.bytes : LastResult → List Byte
  | .none => [0xFF#8, 0xFF#8, 0xFF#8, 0xFF#8, 0xFF#8]
  | .save pass => [0#8, boolByte (!pass), 0xFF#8, 0xFF#8, 0xFF#8]
  | .verify pass n crc => [1#8, boolByte (!pass), byteOf n.val] ++ wordBytes crc

/-- Table 12-8: the payload of READ_STATUS. -/
def State.statusBytes (s : State) : List Byte :=
  [byteOf s.part.code, boolByte s.line.lossDeclared, byteOf s.cues.mode.code, boolByte s.cues.pin,
    optByte (s.player.active.map sceneNumber), byteOf s.store.state.code, boolByte (!s.store.valid)] ++
  s.store.last.bytes ++ wordBytes s.mgmt.flags ++ wordBytes s.mgmt.settings.masks ++
  [boolByte s.faultOutput, boolByte s.restartPending, boolByte s.claims.egressAsserted, boolByte s.cues.cueA,
    boolByte s.cues.cueB] ++
  be16 (Config.poolSize - s.claims.poolFree) ++
  [byteOf s.cues.pendings.length, byteOf s.feedback.confirmations.length, byteOf s.route.intake.length,
    byteOf s.mgmt.unrouted.length, byteOf s.line.roster.length] ++
  be16 s.scenePlacesUsed ++ be16 s.groupPlacesUsed

/-- R185: READ_STATUS taken. -/
def State.reqReadStatus (sender : Nat) (s : State) : State := s.complete sender .done s.statusBytes

/-! ### Entries -/

/-- The stored fields of a roster entry (Table 12-7). -/
def RosterEntry.bytes (e : RosterEntry) : List Byte := [byteOf e.station, byteOf e.controls, byteOf e.privilege.code]

/-- The roster read: the stored fields, the live state, the missed count and whether an absence request waits; every bit set when the
station is not enrolled (log entry 12). -/
def State.rosterRead (station : Nat) (s : State) : List Byte :=
  match s.entryOf station with
  | some e => e.bytes ++ [byteOf e.live.code, byteOf e.missed, boolByte (s.absenceWaiting station)]
  | none => List.replicate 6 0xFF#8

/-- A group entry (Table 12-7). -/
def groupBytes (members : List Circuit) : List Byte :=
  byteOf members.length :: members.flatMap fun c => be16 (circuitNumber c)

/-- A scene entry's circuit and level (Table 12-7). -/
def SceneEntry.bytes (e : SceneEntry) : List Byte := be16 (circuitNumber e.circuit) ++ be16 e.level

/-- A scene entry (Table 12-7). -/
def SceneRecord.bytes (r : SceneRecord) : List Byte :=
  be16 r.fade ++ be16 r.entries.length ++ r.entries.flatMap SceneEntry.bytes

/-- The scene read: the fade time, the total entry count, and up to 32 entries from a position. -/
def SceneRecord.read (position : Nat) (r : SceneRecord) : List Byte :=
  be16 r.fade ++ be16 r.entries.length ++ ((r.entries.drop position).take 32).flatMap SceneEntry.bytes

/-- The settings entry, masks included (Table 12-7). -/
def Settings.bytes (t : Settings) : List Byte := settingsBytes t.fields ++ wordBytes t.masks

/-- R128: the circuit read: the attribute record and the live values, in the order of the rule. -/
def State.circuitRead (c : Circuit) (s : State) : List Byte :=
  circuitBytes (s.eng c).attr.fields ++ be16 (s.eng c).target ++ [boolByte (s.eng c).safety] ++ be16 (s.eng c).level ++
    be16 (s.eng c).fadeTarget ++ be16 (s.eng c).stepsLeft ++ be16 (s.eng c).code

/-- R145: the loop fault record, every bit set when it is empty. -/
def loopFaultBytes : Option LoopFault → List Byte
  | none => List.replicate 5 0xFF#8
  | some r => [byteOf r.kind.code, byteOf r.segment.val] ++ optBe16 (r.circuit.map circuitNumber) ++ [byteOf r.count]

/-- R148: the loop read, in the order of the rule. -/
def State.loopRead (g : Segment) (s : State) : List Byte :=
  loopFaultBytes s.loop.fault ++
  [byteOf s.loop.failures, byteOf s.loop.openRun, byteOf s.loop.outstanding.length, byteOf s.loop.waiting.length,
    s.loop.nextSeq] ++
  (allCircuits.filter fun c => segmentOf c == g).map fun c => byteOf (s.loop.status[c]).code

/-- An owner (Table 12-7). -/
def Owner.bytes : Owner → List Byte
  | .station st k => [byteOf (Owner.station st k).kindCode, byteOf st, byteOf k]
  | .management => [byteOf Owner.management.kindCode, 0xFF#8, 0xFF#8]
  | .scenePlayer => [byteOf Owner.scenePlayer.kindCode, 0xFF#8, 0xFF#8]

/-- The remaining time of a claim (Table 12-7). -/
def ClaimKind.remaining : ClaimKind → Option Nat
  | .timed left => some left
  | .latched | .momentary => none

/-- A claim: every field that Table 12-7 lists, which make 14 bytes where the table's total says 12 (log entry 34). -/
def Claim.bytes (c : Circuit) (cl : Claim) : List Byte :=
  be16 (circuitNumber c) ++ [byteOf cl.layer.code] ++ cl.owner.bytes ++
    [optByte (cl.window.map fun i => i.val), byteOf cl.kind.code] ++ be16 cl.level ++ be16 cl.fade ++
    optBe16 cl.kind.remaining

/-- The claims read of section 12.4. -/
def State.claimsRead (c : Circuit) (s : State) : List Byte :=
  byteOf (s.circ c).claims.length :: (s.circ c).claims.flatMap (Claim.bytes c) ++ optBe16 (s.circ c).egress ++
    optBe16 (s.circ c).loss ++ be16 (s.circ c).target ++ [byteOf (s.circ c).winner.code]

/-- The action field of a pending record, coded as Table 2-2 codes a window's action (log entry 13). -/
def PendingWork.actionCode : PendingWork → Nat
  | .claim _ (.setLevel _ _) _ => 0
  | .claim _ (.toggle _ _) _ => 1
  | .claim _ .clear _ => 2
  | .claim _ (.press _ _) _ | .claim _ .release _ => 3
  | .claim _ (.timed _ _ _) _ => 4
  | .claim _ (.raise _ _) _ => 5
  | .claim _ (.lower _ _) _ => 6
  | .claim _ (.fader _ _ _) _ => 7
  | .scene _ => 9
  | .sceneOff => 10

/-- The layer field of a pending record. -/
def PendingWork.layer : PendingWork → Option Layer
  | .claim layer _ _ => some layer
  | .scene _ | .sceneOff => none

/-- The level, fade time and hold time fields of a claim work, where it has them (Table 5-2). -/
def ClaimWork.quantities : ClaimWork → Option Nat × Option Nat × Option Nat
  | .setLevel level fade | .toggle level fade | .press level fade | .fader _ level fade => (some level, some fade, none)
  | .timed level fade hold => (some level, some fade, some hold)
  | .raise _ fade | .lower _ fade => (none, some fade, none)
  | .clear | .release => (none, none, none)

/-- The level, fade time and hold time fields of a pending record. -/
def PendingWork.quantities : PendingWork → Option Nat × Option Nat × Option Nat
  | .claim _ work _ => work.quantities
  | .scene _ | .sceneOff => (none, none, none)

/-- The scene field of a pending record. -/
def PendingWork.sceneField : PendingWork → Option Nat
  | .scene n => some (sceneNumber n)
  | .claim _ _ _ | .sceneOff => none

/-- The number in the target reference field of a pending record: the OFFSET circuit, or the group (Table 5-2). -/
def PendingWork.targetNumber : PendingWork → Option Nat
  | .claim _ _ (.circuit c) => some (circuitNumber c)
  | .claim _ _ (.group g) => some g.val
  | .scene _ | .sceneOff => none

/-- The two bytes of a target reference (R194): the circuit, or the group in the same field (log entry 8); every bit set when it is
absent. -/
def PendingWork.targetBytes (w : PendingWork) : List Byte := optBe16 w.targetNumber

/-- A pending record, its fields in the order of Table 5-2 (log entry 13). -/
def Pending.bytes (p : Pending) : List Byte :=
  (Owner.station p.station p.control).bytes ++ [byteOf p.window.val, byteOf (cueCode p.cue), byteOf p.work.actionCode,
    optByte (p.work.layer.map Layer.code)] ++ optBe16 p.work.quantities.1 ++ optBe16 p.work.quantities.2.1 ++
    optBe16 p.work.quantities.2.2 ++ [optByte p.work.sceneField] ++ p.work.targetBytes ++ [byteOf p.feedback.code]

/-- The pending read: the list length, and up to 8 records from a position. -/
def State.pendingRead (position : Nat) (s : State) : List Byte :=
  byteOf s.cues.pendings.length :: ((s.cues.pendings.drop position).take 8).flatMap Pending.bytes

/-- R186, Table 11-3: the payload of a READ_ENTRY; none when the kind names none of the table's or the argument is out of range.
Kinds without an argument read none, and the position is read for a scene alone. -/
def State.entryRead (kind arg position : Nat) (s : State) : Option (List Byte) :=
  match kind with
  | 0 => some s.mgmt.settings.bytes
  | 1 => if 1 ≤ arg ∧ arg ≤ Config.stationMax then some (s.rosterRead arg) else none
  | 2 => (indexOf 64 arg).map fun i => windowBytes (s.window i).fields
  | 3 => (indexOf 64 arg).map fun g => groupBytes s.route.groups[g]
  | 4 => if position ≤ 511 then (sceneOf arg).map fun n => s.player.scenes[n].read position else none
  | 5 => (circuitOf arg).map fun c => s.circuitRead c
  | 6 => some (s.engine.masters.toList.flatMap be16)
  | 7 => (indexOf 4 arg).map fun g => s.loopRead g
  | 8 => (circuitOf arg).map fun c => s.claimsRead c
  | 9 => if arg ≤ 31 then some (s.pendingRead arg) else none
  | _ => none

/-- R186: READ_ENTRY taken. -/
def State.reqReadEntry (sender kind arg position : Nat) (s : State) : State :=
  match s.entryRead kind arg position with
  | some payload => s.complete sender .done payload
  | none => s.complete sender .outOfRange []

/-! ### READ_UNROUTED -/

/-- R195: an unrouted record as it is returned. -/
def Unrouted.bytes (u : Unrouted) : List Byte := [byteOf u.station, byteOf u.control, byteOf u.kind.code]

/-- R198: READ_UNROUTED taken: the head of the queue is removed and returned, or the empty record is. -/
def State.reqReadUnrouted (sender : Nat) (s : State) : State :=
  match s.mgmt.unrouted with
  | [] => s.complete sender .done (List.replicate 3 0xFF#8)
  | u :: rest => State.complete sender .done u.bytes { s with mgmt := { s.mgmt with unrouted := rest } }

end Sys2Proof.Machine
end

