-- ==== Sys2Proof/Machine/Image.lean ====
section
/-! DEFINITION. The image (R172, R196): the content of each section from the live tables, and the loading of a section with the limits
that its live table must keep (R173). -/

namespace Sys2Proof.Machine

/-- The tables that the image carries (Table 10-3). -/
structure Tables where
  settings : Settings
  roster : List RosterEntry
  windows : Vector Window 64
  groups : Vector (List Circuit) 64
  scenes : Vector SceneRecord 96
  attrs : Vector Attr 512
  deriving DecidableEq, Repr

/-- R175: the defaults of every table. -/
def Tables.default : Tables where
  settings := Settings.default
  roster := []
  windows := Vector.replicate 64 Window.default
  groups := Vector.replicate 64 []
  scenes := Vector.replicate 96 { fade := 0, entries := [] }
  attrs := Vector.replicate 512 Attr.default

/-- The live tables of the part. -/
def State.tables (s : State) : Tables where
  settings := s.mgmt.settings
  roster := s.line.roster
  windows := s.route.windows
  groups := s.route.groups
  scenes := s.player.scenes
  attrs := mapTable (fun _ e => e.attr) s.engine.circuits

/-! ### Content (R196) -/

/-- The content of a section. -/
def Tables.content (t : Tables) (n : SectionNo) : List Byte :=
  match n with
  | 0 => t.settings.bytes
  | 1 => byteOf t.roster.length :: t.roster.flatMap RosterEntry.bytes
  | 2 => t.windows.toList.flatMap fun w => windowBytes w.fields
  | 3 => t.groups.toList.flatMap groupBytes
  | 4 => t.scenes.toList.flatMap SceneRecord.bytes
  | 5 => t.attrs.toList.flatMap fun a => circuitBytes a.fields

/-- A section as a SAVE writes it whole: its content with the CRC over it (R177). -/
def Tables.written (t : Tables) (n : SectionNo) : ImageSection := .stored (t.content n) (crc16 (t.content n))

/-! ### Reading entries back -/

/-- A reader of one entry: the entry and the bytes that follow it, or none when a limit is broken or the bytes end. -/
abbrev Reader (α : Type) := List Byte → Option (α × List Byte)

/-- A reader of `n` entries one after another. -/
def readMany {α : Type} (one : Reader α) : Nat → Reader (List α)
  | 0, bytes => some ([], bytes)
  | n + 1, bytes =>
    match one bytes with
    | none => none
    | some (a, rest) =>
      match readMany one n rest with
      | none => none
      | some (l, after) => some (a :: l, after)

/-- A reader of an entry of fixed length. -/
def readFixed {α : Type} (len : Nat) (of : List Byte → Option α) : Reader α := fun bytes =>
  (of (bytes.take len)).map fun a => (a, bytes.drop len)

/-- R173: a settings entry within its limits. -/
def settingsEntry (bytes : List Byte) : Option Settings :=
  match settingsFieldsOf (bytes.take 8), bytes.drop 8 with
  | some f, [hi, lo] =>
    match settingsOf (wordOf hi lo) f with
    | some t => if t.fields = f ∧ storedMasks t.masks = t.masks then some t else none
    | none => none
  | _, _ => none

/-- R1: a roster entry as it is loaded. -/
def RosterEntry.loaded (station controls : Nat) (privilege : Privilege) : RosterEntry where
  station := station
  controls := controls
  privilege := privilege
  live := .unknown
  missed := 0
  slot := none

/-- R173: a roster entry within its limits. -/
def rosterEntry : List Byte → Option RosterEntry
  | [st, co, pr] =>
    match privilegeOf pr.toNat with
    | some p =>
      if 1 ≤ st.toNat ∧ st.toNat ≤ Config.stationMax ∧ 1 ≤ co.toNat ∧ co.toNat ≤ 32 then
        some (RosterEntry.loaded st.toNat co.toNat p)
      else none
    | none => none
  | _ => none

/-- R173: a window entry within its limits: every code names a value, no quantity needs a clamp, and the argument and target argument
are those that the action and target need. -/
def windowEntry (bytes : List Byte) : Option Window :=
  match windowFieldsOf bytes with
  | some f =>
    match yesNoOf f.enabled with
    | some enabled =>
      match windowOf enabled f with
      | some w => if w.fields = f then some w else none
      | none => none
    | none => none
  | none => none

/-- R173: a circuit entry within its limits. -/
def circuitEntry (bytes : List Byte) : Option Attr :=
  match circuitFieldsOf bytes with
  | some f =>
    match attrOf f with
    | some a => if a.fields = f then some a else none
    | none => none
  | none => none

/-- A member of a group. -/
def memberEntry : List Byte → Option Circuit
  | [hi, lo] => circuitOf (ofBe16 hi lo)
  | _ => none

/-- R173: circuits stand in ascending order without repeats. -/
def ascending : List Nat → Bool
  | a :: b :: rest => decide (a < b) && ascending (b :: rest)
  | _ => true

/-- R173: a group entry within its limits. -/
def readGroup : Reader (List Circuit)
  | [] => none
  | m :: bytes =>
    match readMany (readFixed 2 memberEntry) m.toNat bytes with
    | some (l, rest) =>
      if m.toNat ≤ Config.groupMax && ascending (l.map Fin.val) then some (l, rest) else none
    | none => none

/-- R173: one circuit and level of a scene. -/
def sceneEntryOf : List Byte → Option SceneEntry
  | [c1, c0, l1, l0] =>
    match circuitOf (ofBe16 c1 c0) with
    | some c => if ofBe16 l1 l0 ≤ 1000 then some { circuit := c, level := ofBe16 l1 l0 } else none
    | none => none
  | _ => none

/-- R173: a scene entry within its limits. -/
def readScene : Reader SceneRecord
  | f1 :: f0 :: e1 :: e0 :: bytes =>
    match readMany (readFixed 4 sceneEntryOf) (ofBe16 e1 e0) bytes with
    | some (l, rest) =>
      if decide (ofBe16 f1 f0 ≤ 6000) && ascending (l.map fun e => e.circuit.val) then
        some ({ fade := ofBe16 f1 f0, entries := l }, rest)
      else none
    | none => none
  | _ => none

/-! ### Reading sections -/

/-- A list as a table of the size given. -/
def tableOf {α : Type} (n : Nat) (l : List α) : Option (Vector α n) :=
  if h : l.length = n then some ⟨l.toArray, by simp [h]⟩ else none

/-- What a reader makes of a content that it uses up. -/
def whole {α : Type} (r : Reader α) (bytes : List Byte) : Option α :=
  match r bytes with
  | some (a, []) => some a
  | _ => none

/-- R173: the settings section. -/
def loadSettings (bytes : List Byte) : Option Settings := settingsEntry bytes

/-- R173: the roster section, at most 120 entries in ascending station order without repeats. -/
def loadRoster : List Byte → Option (List RosterEntry)
  | [] => none
  | n :: bytes =>
    match whole (readMany (readFixed 3 rosterEntry) n.toNat) bytes with
    | some l => if n.toNat ≤ Config.rosterMax && ascending (l.map (·.station)) then some l else none
    | none => none

/-- R173: the windows section. -/
def loadWindows (bytes : List Byte) : Option (Vector Window 64) :=
  (whole (readMany (readFixed 24 windowEntry) 64) bytes).bind (tableOf 64)

/-- R173: the groups section, at most 1024 members in all. -/
def loadGroups (bytes : List Byte) : Option (Vector (List Circuit) 64) :=
  match whole (readMany readGroup 64) bytes with
  | some l => if (l.map List.length).sum ≤ Config.groupPlaces then tableOf 64 l else none
  | none => none

/-- R173: the scenes section, at most 8192 entries in all. -/
def loadScenes (bytes : List Byte) : Option (Vector SceneRecord 96) :=
  match whole (readMany readScene 96) bytes with
  | some l => if (l.map fun r => r.entries.length).sum ≤ Config.scenePlaces then tableOf 96 l else none
  | none => none

/-- R173: the circuits section. -/
def loadCircuits (bytes : List Byte) : Option (Vector Attr 512) :=
  (whole (readMany (readFixed 17 circuitEntry) 512) bytes).bind (tableOf 512)

/-- R173: the content of a section that is not erased and whose CRC agrees. -/
def soundContent : ImageSection → Option (List Byte)
  | .erased => none
  | .stored content crc => if crc16 content = crc then some content else none

/-- R173: the tables of an image whose six sections are all good. -/
def loadImage (image : Vector ImageSection 6) : Option Tables :=
  match (soundContent image[0]).bind loadSettings, (soundContent image[1]).bind loadRoster, (soundContent image[2]).bind loadWindows,
    (soundContent image[3]).bind loadGroups, (soundContent image[4]).bind loadScenes, (soundContent image[5]).bind loadCircuits with
  | some settings, some roster, some windows, some groups, some scenes, some attrs =>
    some { settings := settings, roster := roster, windows := windows, groups := groups, scenes := scenes, attrs := attrs }
  | _, _, _, _, _, _ => none

end Sys2Proof.Machine
end

