-- ==== Sys2Proof/Machine/Store.lean ====
section
/-! DEFINITION. The Table Store's operations after their acceptance: the end of a SAVE (R177), a SAVE cut off by loss of power (R178),
and the end of a VERIFY (R179). -/

namespace Sys2Proof.Machine

/-! ### SAVE -/

/-- What the medium holds of a section after it was written: the bytes that it reads back in place of those written, from the start of
the content on, and the bytes written after them (log entry 16). -/
def overlaid (readBack content : List Byte) : List Byte := readBack.take content.length ++ content.drop readBack.length

/-- R177: a section written, then read back with the CRC that was written beside it. -/
def Tables.stored (t : Tables) (n : SectionNo) (readBack : List Byte) : ImageSection :=
  .stored (overlaid readBack (t.content n)) (crc16 (t.content n))

/-- R177: whether the CRC of what is read back equals the CRC written. -/
def Tables.readsBack (t : Tables) (n : SectionNo) (readBack : List Byte) : Bool :=
  crc16 (overlaid readBack (t.content n)) == crc16 (t.content n)

/-- What the medium reads back of a section: nothing changed where the operand has no entry. -/
def readBackOf (readBack : List (List Byte)) (n : SectionNo) : List Byte := (readBack[n.val]?).getD []

/-- R177: the first section whose read-back differs. -/
def Tables.firstBad (t : Tables) (readBack : List (List Byte)) : Option SectionNo :=
  (List.finRange 6).find? fun n => !t.readsBack n (readBackOf readBack n)

/-- R177: the image that a SAVE leaves. A section after the first bad one stays erased. -/
def Tables.savedImage (t : Tables) (readBack : List (List Byte)) : Vector ImageSection 6 :=
  Vector.ofFn fun n =>
    match t.firstBad readBack with
    | some bad => if n ≤ bad then t.stored n (readBackOf readBack n) else .erased
    | none => t.stored n (readBackOf readBack n)

/-- R177: the store at the end of a SAVE: IDLE, the last result, the condition, and the image. -/
def StoreBlock.endSave (image : Vector ImageSection 6) (pass : Bool) (_ : StoreBlock) : StoreBlock where
  image := image
  valid := pass
  state := .idle
  last := .save pass

/-- SAVE_COMPLETION (R177): the end of the SAVE in progress, from the live tables as they stand. -/
def State.saveCompletion (readBack : List (List Byte)) (s : State) : State :=
  match s.store.state with
  | .saving _ =>
    let pass := (s.tables.firstBad readBack).isNone
    State.reportIf (!pass) .storeFault
      { s with store := s.store.endSave (s.tables.savedImage readBack) pass }
  | .idle | .verifying _ _ _ => s

/-! ### Loss of power during a SAVE (R178) -/

/-- R178: a section that the loss of power left unfinished is erased, or its CRC disagrees with its content. -/
def tornSection : ImageSection → ImageSection
  | .erased => .erased
  | .stored content crc => if crc16 content = crc then .erased else .stored content crc

/-- R178: the image that a SAVE cut off by loss of power leaves: `done` sections written whole, the rest torn. -/
def Tables.cutImage (t : Tables) (done : Nat) (rest : List ImageSection) : Vector ImageSection 6 :=
  Vector.ofFn fun n => if n.val < done then t.written n else tornSection ((rest[n.val - done]?).getD .erased)

/-! ### VERIFY -/

/-- R179, R196: the content that a VERIFY reads: that of an erased section is empty. -/
def readContent : ImageSection → List Byte
  | .erased => []
  | .stored content _ => content

/-- R179: the CRC that a VERIFY computes for a section. -/
def StoreBlock.sectionCrc (b : StoreBlock) (n : SectionNo) : Word := crc16 (readContent b.image[n])

/-- VERIFY_COMPLETION (R179). -/
def State.verifyCompletion (s : State) : State :=
  match s.store.state with
  | .verifying sender n expected =>
    let crc := s.store.sectionCrc n
    State.complete sender .done ([boolByte (crc != expected)] ++ wordBytes crc)
      { s with store := { s.store with state := .idle, last := .verify (crc == expected) n crc } }
  | .idle | .saving _ => s

/-- SAVE_COMPLETION (R177). -/
def execSaveCompletion (readBack : List (List Byte)) (s : State) : Host.Outcome State Fault Refusal :=
  .next (s.saveCompletion readBack)

/-- VERIFY_COMPLETION (R179). -/
def execVerifyCompletion (s : State) : Host.Outcome State Fault Refusal := .next s.verifyCompletion

end Sys2Proof.Machine
end

