-- ==== Sys2Proof/Machine/Power.lean ====
section
/-! DEFINITION. The supply (R171, R178), and the entry to LOADING by power-on and RESTART. -/

namespace Sys2Proof.Machine

/-- R171, R181: entry to LOADING: every block takes its values after power-on and RESTART, and the image is kept. -/
def State.enterLoading (s : State) : State :=
  { State.reset with
    powered := s.powered
    store := { State.reset.store with image := s.store.image, valid := s.store.valid }
    pending := s.pending }

/-- POWER_ON (R171). -/
def State.powerOn (s : State) : State := State.enterLoading { s with powered := true }

/-- R178: the image after a loss of power. -/
def State.imageAfterLoss (done : Nat) (rest : List ImageSection) (s : State) : Vector ImageSection 6 :=
  match s.store.state with
  | .saving _ => s.tables.cutImage done rest
  | .idle | .verifying _ _ _ => s.store.image

/-- POWER_LOSS (R178): all state but the image is lost, and the part does nothing until POWER_ON (log entry 3). -/
def State.powerLoss (done : Nat) (rest : List ImageSection) (s : State) : State :=
  if s.powered then
    State.enterLoading { s with powered := false, store := { s.store with image := s.imageAfterLoss done rest } }
  else s

/-- POWER_ON (R171). -/
def execPowerOn (s : State) : Host.Outcome State Fault Refusal := .next s.powerOn

/-- POWER_LOSS (R178). -/
def execPowerLoss (done : Nat) (rest : List ImageSection) (s : State) : Host.Outcome State Fault Refusal :=
  .next (s.powerLoss done rest)

end Sys2Proof.Machine
end

