-- ==== Sys2Proof/Machine/Roster.lean ====
section
/-! DEFINITION. Roster edits: ENROL (R19) and DELETE (R20). -/

namespace Sys2Proof.Machine

/-- R1, R19: a new entry inserted in ascending station order. -/
def insertStation (e : RosterEntry) : List RosterEntry → List RosterEntry
  | [] => [e]
  | x :: rest => if e.station < x.station then e :: x :: rest else x :: insertStation e rest

/-- The roster replaced. -/
def State.setRoster (l : List RosterEntry) (s : State) : State := { s with line := { s.line with roster := l } }

/-- R150: the one-shots of a station at or above a control number set to none. -/
def State.dropShots (station from_ : Nat) (s : State) : State :=
  { s with
    feedback :=
      { s.feedback with shots := s.feedback.shots.filter fun o => !(o.station == station && decide (from_ ≤ o.control)) } }

/-- R19, R68: the absence request of a station withdrawn. -/
def State.withdrawAbsence (station : Nat) (s : State) : State := s.withdraw (· == .absence station)

/-- Whether ENROL and DELETE answer OUT_OF_RANGE for a bad argument while the store is BUSY as well (log entry 9). -/
def State.rangeAnswered (s : State) : Bool := !s.storeBusy || Config.rangeBeforeBusy

/-- R19: the entry of a station that has one is replaced in its place; its reply slot is kept. -/
def State.replaceEntry (station controls : Nat) (privilege : Privilege) (s : State) : State :=
  ((s.modifyEntry station fun e =>
      { e with controls := controls, privilege := privilege, live := .unknown, missed := 0 }).withdrawAbsence
    station).dropShots station controls

/-- R19: a new entry, with the line-loss timer started when it is the first (R17) and an empty image (R150). -/
def State.insertEntry (station controls : Nat) (privilege : Privilege) (s : State) : State :=
  let added := s.setRoster (insertStation
    { station := station, controls := controls, privilege := privilege, live := .unknown, missed := 0, slot := none }
    s.line.roster)
  (if s.line.roster.isEmpty then added.startLossTimer else added).dropShots station 0

/-- R19: an ENROL whose arguments were found good. -/
def State.storeEntry (sender station controls : Nat) (privilege : Privilege) (s : State) : State :=
  let stored := clamp 1 32 controls
  if s.enrolled station then
    (s.replaceEntry station stored privilege).complete sender (doneOr (stored != controls)) []
  else if s.line.roster.length < Config.rosterMax then
    (s.insertEntry station stored privilege).complete sender (doneOr (stored != controls)) []
  else s.complete sender .noSpace []

/-- Whether a station number may be enrolled (Table 1-1). -/
def enrolNumber (station : Nat) : Bool := decide (1 ≤ station) && decide (station ≤ Config.stationMax)

/-- R19, R176: ENROL taken. -/
def State.reqEnrol (sender station controls privilege : Nat) (s : State) : State :=
  match enrolNumber station, privilegeOf privilege with
  | true, some p => if s.storeBusy then s.complete sender .busy [] else s.storeEntry sender station controls p
  | _, _ => s.complete sender (if s.rangeAnswered then .outOfRange else .busy) []

/-- R20, R14, R191: the reply that waits in the slot of a station is discarded: its request in progress ends, and the station leaves
the set of stations whose RESTART reply waits. -/
def State.discardReply (station : Nat) (e : RosterEntry) (s : State) : State :=
  match e.slot with
  | none => s
  | some _ =>
    let ended := s.endRequest station
    { ended with mgmt := { ended.mgmt with restartSet := ended.mgmt.restartSet.filter (· != station) } }

/-- R20: the confirmation records and the indicator image of a station dropped. -/
def State.dropFeedback (station : Nat) (s : State) : State :=
  { s with
    feedback :=
      { shots := s.feedback.shots.filter (·.station != station)
        confirmations := s.feedback.confirmations.filter (·.station != station) } }

/-- R20, R68: the removal of a station's claims requested, unless one of the station still waits. -/
def State.requestRemoval (station : Nat) (s : State) : State :=
  if s.claims.order.contains (.removal station) then s else s.request (.removal station)

/-- R17, R18, R20: an emptied roster stops the line-loss timer and ends a declared line loss. -/
def State.rosterEmptied (s : State) : State :=
  if s.line.roster.isEmpty then
    let stopped := { s with line := { s.line with lossTimer := none } }
    if s.line.lossDeclared then stopped.declareOk else stopped
  else s

/-- R20: the entry of a station removed, with everything that goes with it. -/
def State.removeEntry (station : Nat) (e : RosterEntry) (s : State) : State :=
  let removed := s.setRoster (s.line.roster.filter (·.station != station))
  let unread := (removed.withdrawAbsence station).discardReply station e
  let pruned := unread.setPendings (unread.cues.pendings.filter (·.station != station))
  ((pruned.dropFeedback station).requestRemoval station).rosterEmptied

/-- R20, R176: DELETE taken. -/
def State.reqDelete (sender station : Nat) (s : State) : State :=
  if enrolNumber station then
    if s.storeBusy then s.complete sender .busy []
    else
      match s.entryOf station with
      | some e => (s.removeEntry station e).complete sender .done []
      | none => s.complete sender .done []
  else s.complete sender (if s.rangeAnswered then .outOfRange else .busy) []

end Sys2Proof.Machine
end

