-- ==== Sys2Proof/Machine/Tables.lean ====
section
/-! DEFINITION. The remaining writes of management: windows (R48, R49), groups (R47), settings (R180), masks (R189), flags (R188),
SET_LEVEL and RELEASE_LAYER up to the arbiter (R73, R74), RESTART (R191), SAVE (R177) and VERIFY (R179). -/

namespace Sys2Proof.Machine

/-! ### Windows -/

/-- The window table with one window replaced. -/
def State.setWindow (i : WindowIndex) (w : Window) (s : State) : State :=
  { s with route := { s.route with windows := s.route.windows.set i w } }

/-- R48: WRITE_WINDOW taken. The window stays disabled. -/
def State.reqWriteWindow (sender index : Nat) (f : WindowFields) (s : State) : State :=
  match indexOf 64 index with
  | none => s.complete sender .outOfRange []
  | some i =>
    if s.storeBusy || s.recallInFlight then s.complete sender .busy []
    else if (s.window i).enabled then s.complete sender .refusedLive []
    else
      match windowOf false f with
      | none => s.complete sender .outOfRange []
      | some w => (s.setWindow i w).complete sender (doneOr (clampWindow f != f)) []

/-- R49, R97: a window's enabled field takes a value; the disable of an enabled window drops its pending records with NACK. -/
def State.enableWindow (i : WindowIndex) (b : Bool) (s : State) : State :=
  let written := s.setWindow i { s.window i with enabled := b }
  if (s.window i).enabled && !b then written.dropPendings (·.window == i) else written

/-- R49: SET_WINDOW taken. An enable code that is neither yes nor no is refused in the last case (log entry 10). -/
def State.reqSetWindow (sender index enable : Nat) (s : State) : State :=
  match indexOf 64 index with
  | none => s.complete sender .outOfRange []
  | some i =>
    if s.storeBusy || s.recallInFlight then s.complete sender .busy []
    else
      match yesNoOf enable with
      | some b => (s.enableWindow i b).complete sender .done []
      | none => s.complete sender .outOfRange []

/-! ### Groups -/

/-- The group table with one group replaced. -/
def State.setGroup (g : GroupNo) (l : List Circuit) (s : State) : State :=
  { s with route := { s.route with groups := s.route.groups.set g l } }

/-- R47: a member inserted in ascending place. -/
def insertMember (c : Circuit) : List Circuit → List Circuit
  | [] => [c]
  | x :: rest => if c < x then c :: x :: rest else x :: insertMember c rest

/-- R47, case 3: ADD_GROUP_MEMBER of a good group and circuit. -/
def State.addMember (sender : Nat) (g : GroupNo) (c : Circuit) (s : State) : State :=
  if s.route.groups[g].contains c then s.complete sender .done []
  else if Config.groupMax ≤ s.route.groups[g].length ∨ Config.groupPlaces ≤ s.groupPlacesUsed then
    s.complete sender .noSpace []
  else (s.setGroup g (insertMember c s.route.groups[g])).complete sender .done []

/-- R47: ADD_GROUP_MEMBER taken. -/
def State.reqAddGroupMember (sender group circuit : Nat) (s : State) : State :=
  match indexOf 64 group, circuitOf circuit with
  | some g, some c => if s.storeBusy || s.recallInFlight then s.complete sender .busy [] else s.addMember sender g c
  | _, _ => s.complete sender .outOfRange []

/-- R47: REMOVE_GROUP_MEMBER taken. -/
def State.reqRemoveGroupMember (sender group circuit : Nat) (s : State) : State :=
  match indexOf 64 group, circuitOf circuit with
  | some g, some c =>
    if s.storeBusy || s.recallInFlight then s.complete sender .busy []
    else (s.setGroup g (s.route.groups[g].filter (· != c))).complete sender .done []
  | _, _ => s.complete sender .outOfRange []

/-! ### Requests that wait at the arbiter -/

/-- R73: SET_LEVEL taken: its references checked, its quantities clamped, and the request placed. -/
def State.reqSetLevel (sender circuit layer level fade : Nat) (s : State) : State :=
  match circuitOf circuit, layerOf layer with
  | some c, some l =>
    s.request (.setLevel sender c l (min level 1000) (min fade 6000) (decide (1000 < level) || decide (6000 < fade)))
  | _, _ => s.complete sender .outOfRange []

/-- R74: RELEASE_LAYER taken. -/
def State.reqReleaseLayer (sender layer first last : Nat) (s : State) : State :=
  match layerOf layer, circuitOf first, circuitOf last with
  | some l, some a, some b =>
    if a ≤ b then s.request (.releaseLayer sender l a b) else s.complete sender .outOfRange []
  | _, _, _ => s.complete sender .outOfRange []

/-! ### Settings, masks and flags -/

/-- The settings record replaced. -/
def State.setSettings (t : Settings) (s : State) : State := { s with mgmt := { s.mgmt with settings := t } }

/-- R180, R198: a settings record stored; learn turned from yes to no empties the unrouted queue. -/
def State.storeSettings (t : Settings) (s : State) : State :=
  let stored := s.setSettings t
  if s.mgmt.settings.learn && !t.learn then { stored with mgmt := { stored.mgmt with unrouted := [] } } else stored

/-- R180: WRITE_SETTINGS taken; the masks stay. -/
def State.reqWriteSettings (sender : Nat) (f : SettingsFields) (s : State) : State :=
  if s.storeBusy then s.complete sender .busy []
  else
    match settingsOf s.mgmt.settings.masks f with
    | none => s.complete sender .outOfRange []
    | some t => (s.storeSettings t).complete sender (doneOr (clampSettings f != f)) []

/-- R189: SET_MASK taken. -/
def State.reqSetMask (sender : Nat) (masks : Word) (s : State) : State :=
  if s.storeBusy then s.complete sender .busy []
  else
    (s.setSettings { s.mgmt.settings with masks := storedMasks masks }).complete sender
      (doneOr (masks &&& unmaskable != 0)) []

/-- R188: CLEAR_FLAGS taken; the reply carries the flags that are set afterwards. -/
def State.reqClearFlags (sender : Nat) (named : Word) (s : State) : State :=
  State.complete sender .done (wordBytes (s.clearedFlags named))
    { s with mgmt := { s.mgmt with flags := s.clearedFlags named } }

/-! ### RESTART, SAVE and VERIFY -/

/-- R191: RESTART taken. -/
def State.reqRestart (sender : Nat) (s : State) : State :=
  if s.storeBusy then s.complete sender .busy []
  else
    State.complete sender .accepted []
      { s with
        mgmt := { s.mgmt with restartSet := s.mgmt.restartSet.filter (· != sender) ++ [sender] } }

/-- R177: SAVE accepted: BUSY with SAVE at the first section, the condition INVALID, every section erased. -/
def StoreBlock.beginSave (b : StoreBlock) : StoreBlock :=
  { b with state := .saving 0, valid := false, image := Vector.replicate 6 .erased }

/-- R177: SAVE taken. -/
def State.reqSave (sender : Nat) (s : State) : State :=
  if s.storeBusy || s.restartPending then s.complete sender .busy []
  else State.complete sender .accepted [] { s with store := s.store.beginSave }

/-- R179: VERIFY taken; its reply waits for the end of the read. -/
def State.reqVerify (sender sectionCode : Nat) (expected : Word) (s : State) : State :=
  match indexOf 6 sectionCode with
  | none => s.complete sender .outOfRange []
  | some n =>
    if s.storeBusy || s.restartPending then s.complete sender .busy []
    else { s with store := { s.store with state := .verifying sender n expected } }

end Sys2Proof.Machine
end

