-- ==== Sys2Proof/Machine/Requests.lean ====
section
/-! DEFINITION. The taking of management requests (R182, R183) and their decoding from a record's payload (Table 12-1). -/

namespace Sys2Proof.Machine

/-! ### Taking a request (R182) -/

/-- R182: whether a record from a station may be taken: it comes from the service station, or from an entry of privilege CONFIG. -/
def State.mayManage (sender : Nat) (s : State) : Bool :=
  sender == Config.serviceStation ||
    (match s.entryOf sender with
      | some e => e.privilege == .config
      | none => false)

/-- R182: whether a record from a station is taken: it may be, and the station has no request in progress. No record arrives in
LOADING. -/
def State.takes (sender : Nat) (s : State) : Bool := s.active && s.mayManage sender && (s.tagOf sender).isNone

/-- R182: a request of a station with a tag: discarded, or a request in progress starts and the request's own work is done
(log entry 7). -/
def State.takeRequest (sender tag : Nat) (work : State → State) (s : State) : State :=
  if s.takes sender then work (s.beginRequest sender tag) else s

/-! ### The payloads of Table 12-1 -/

/-- The argument of a READ_ENTRY: nothing for settings and masters, two bytes for a circuit, a scene with a two-byte position, and one
byte for the other kinds. -/
def readEntryArgs (kind : Nat) (args : List Byte) : Option (Nat × Nat) :=
  match kind, args with
  | 0, [] | 6, [] => some (0, 0)
  | 1, [a] | 2, [a] | 3, [a] | 7, [a] | 9, [a] => some (a.toNat, 0)
  | 4, [a, p1, p0] => some (a.toNat, ofBe16 p1 p0)
  | 5, [a1, a0] | 8, [a1, a0] => some (ofBe16 a1 a0, 0)
  | _, _ => none

/-- R183, checks 2 and 3: what a request code and payload ask for. -/
inductive Asked where
  /-- The code names no request. -/
  | unknown
  /-- The payload's length is not the request's. -/
  | badLength
  /-- The command that the record spells. -/
  | command (c : Instr)
  deriving DecidableEq, Repr

/-- The length that Table 12-1 gives does not fit. -/
def lengthOr : Option Instr → Asked
  | some c => .command c
  | none => .badLength

/-- The command that a payload without content spells. -/
def noPayload (c : Instr) : List Byte → Asked
  | [] => .command c
  | _ => .badLength

/-- Table 12-1: the command that a request code and a payload spell. -/
def askedOf (sender tag code : Nat) (payload : List Byte) : Asked :=
  match code with
  | 1 => noPayload (.readStatus sender tag) payload
  | 2 =>
    match payload with
    | kind :: args => lengthOr ((readEntryArgs kind.toNat args).map fun a => .readEntry sender tag kind.toNat a.1 a.2)
    | [] => .badLength
  | 3 => noPayload (.readUnrouted sender tag) payload
  | 4 =>
    match payload with
    | [f1, f0] => .command (.clearFlags sender tag (wordOf f1 f0))
    | _ => .badLength
  | 5 =>
    match payload with
    | [f1, f0] => .command (.setMask sender tag (wordOf f1 f0))
    | _ => .badLength
  | 6 => noPayload (.restart sender tag) payload
  | 7 => lengthOr ((settingsFieldsOf payload).map (.writeSettings sender tag))
  | 8 => noPayload (.save sender tag) payload
  | 9 =>
    match payload with
    | [n, e1, e0] => .command (.verify sender tag n.toNat (wordOf e1 e0))
    | _ => .badLength
  | 10 =>
    match payload with
    | [st, co, pr] => .command (.enrol sender tag st.toNat co.toNat pr.toNat)
    | _ => .badLength
  | 11 =>
    match payload with
    | [st] => .command (.delete sender tag st.toNat)
    | _ => .badLength
  | 12 =>
    match payload with
    | i :: entry => lengthOr ((windowFieldsOf entry).map (.writeWindow sender tag i.toNat))
    | [] => .badLength
  | 13 =>
    match payload with
    | [i, en] => .command (.setWindow sender tag i.toNat en.toNat)
    | _ => .badLength
  | 14 =>
    match payload with
    | [g, c1, c0] => .command (.addGroupMember sender tag g.toNat (ofBe16 c1 c0))
    | _ => .badLength
  | 15 =>
    match payload with
    | [g, c1, c0] => .command (.removeGroupMember sender tag g.toNat (ofBe16 c1 c0))
    | _ => .badLength
  | 16 =>
    match payload with
    | [c1, c0, la, l1, l0, f1, f0] =>
      .command (.setLevel sender tag (ofBe16 c1 c0) la.toNat (ofBe16 l1 l0) (ofBe16 f1 f0))
    | _ => .badLength
  | 17 =>
    match payload with
    | [la, a1, a0, b1, b0] => .command (.releaseLayer sender tag la.toNat (ofBe16 a1 a0) (ofBe16 b1 b0))
    | _ => .badLength
  | 18 =>
    match payload with
    | [n, c1, c0, l1, l0] => .command (.setSceneEntry sender tag n.toNat (ofBe16 c1 c0) (ofBe16 l1 l0))
    | _ => .badLength
  | 19 =>
    match payload with
    | [n, c1, c0] => .command (.clearSceneEntry sender tag n.toNat (ofBe16 c1 c0))
    | _ => .badLength
  | 20 =>
    match payload with
    | [n, f1, f0] => .command (.setSceneFade sender tag n.toNat (ofBe16 f1 f0))
    | _ => .badLength
  | 21 =>
    match payload with
    | [n] => .command (.captureScene sender tag n.toNat)
    | _ => .badLength
  | 22 =>
    match payload with
    | [m, p] => .command (.setMode sender tag m.toNat p.toNat)
    | _ => .badLength
  | 23 =>
    match payload with
    | [x] => .command (.fireCue sender tag x.toNat)
    | _ => .badLength
  | 24 =>
    match payload with
    | [x] => .command (.clearPending sender tag x.toNat)
    | _ => .badLength
  | 25 =>
    match payload with
    | [m, v1, v0] => .command (.setMaster sender tag m.toNat (ofBe16 v1 v0))
    | _ => .badLength
  | 26 =>
    match payload with
    | c1 :: c0 :: entry => lengthOr ((circuitFieldsOf entry).map (.writeCircuit sender tag (ofBe16 c1 c0)))
    | _ => .badLength
  | _ => .unknown

/-- Table 12-1: the payload of a READ_ENTRY. -/
def entryPayload (kind arg position : Nat) : List Byte :=
  byteOf kind ::
    match kind with
    | 0 | 6 => []
    | 4 => byteOf arg :: be16 position
    | 5 | 8 => be16 arg
    | _ => [byteOf arg]

/-- What a record of a request carries: its station, tag, request code and payload. -/
structure RequestForm where
  sender : Nat
  tag : Nat
  code : Nat
  payload : List Byte
  deriving DecidableEq, Repr

/-- Table 12-1: the record that asks for a command, for the commands that are requests. -/
def requestForm : Instr → Option RequestForm
  | .readStatus sender tag => some ⟨sender, tag, 1, []⟩
  | .readEntry sender tag kind arg position => some ⟨sender, tag, 2, entryPayload kind arg position⟩
  | .readUnrouted sender tag => some ⟨sender, tag, 3, []⟩
  | .clearFlags sender tag flags => some ⟨sender, tag, 4, wordBytes flags⟩
  | .setMask sender tag masks => some ⟨sender, tag, 5, wordBytes masks⟩
  | .restart sender tag => some ⟨sender, tag, 6, []⟩
  | .writeSettings sender tag fields => some ⟨sender, tag, 7, settingsBytes fields⟩
  | .save sender tag => some ⟨sender, tag, 8, []⟩
  | .verify sender tag n expected => some ⟨sender, tag, 9, byteOf n :: wordBytes expected⟩
  | .enrol sender tag station controls privilege =>
    some ⟨sender, tag, 10, [byteOf station, byteOf controls, byteOf privilege]⟩
  | .delete sender tag station => some ⟨sender, tag, 11, [byteOf station]⟩
  | .writeWindow sender tag index fields => some ⟨sender, tag, 12, byteOf index :: windowBytes fields⟩
  | .setWindow sender tag index enable => some ⟨sender, tag, 13, [byteOf index, byteOf enable]⟩
  | .addGroupMember sender tag group circuit => some ⟨sender, tag, 14, byteOf group :: be16 circuit⟩
  | .removeGroupMember sender tag group circuit => some ⟨sender, tag, 15, byteOf group :: be16 circuit⟩
  | .setLevel sender tag circuit layer level fade =>
    some ⟨sender, tag, 16, be16 circuit ++ [byteOf layer] ++ be16 level ++ be16 fade⟩
  | .releaseLayer sender tag layer first last => some ⟨sender, tag, 17, byteOf layer :: be16 first ++ be16 last⟩
  | .setSceneEntry sender tag scene circuit level => some ⟨sender, tag, 18, byteOf scene :: be16 circuit ++ be16 level⟩
  | .clearSceneEntry sender tag scene circuit => some ⟨sender, tag, 19, byteOf scene :: be16 circuit⟩
  | .setSceneFade sender tag scene fade => some ⟨sender, tag, 20, byteOf scene :: be16 fade⟩
  | .captureScene sender tag scene => some ⟨sender, tag, 21, [byteOf scene]⟩
  | .setMode sender tag mode pin => some ⟨sender, tag, 22, [byteOf mode, byteOf pin]⟩
  | .fireCue sender tag cue => some ⟨sender, tag, 23, [byteOf cue]⟩
  | .clearPending sender tag selector => some ⟨sender, tag, 24, [byteOf selector]⟩
  | .setMaster sender tag master value => some ⟨sender, tag, 25, byteOf master :: be16 value⟩
  | .writeCircuit sender tag circuit fields => some ⟨sender, tag, 26, be16 circuit ++ circuitBytes fields⟩
  | .powerOn | .powerLoss _ _ | .loadingEnd _ _ _ | .pollSent | .answerReceived _ | .answerWindowTimeout
  | .strayStationFrame _ | .lineLossTimerExpiry | .egressAssertion | .egressRelease | .cueInputDebounced _ _
  | .takeEventRecord | .claimActionGrant | .absenceGrant | .stationRemovalGrant | .claimTimerExpiry | .expiryGrant
  | .setLevelGrant | .releaseLayerGrant | .mergeRuleGrant | .recallGrant | .recallCompletion | .releaseGrant | .captureGrant
  | .cueGrant | .cueCompletion | .modeChangeGrant | .fadeStepTimerExpiry | .levelScheduleTimerExpiry
  | .statusScheduleTimerExpiry | .frameTransmitStart | .frameTransmitEnd | .returnTimeout | .loopFrameReceived _
  | .saveCompletion _ | .verifyCompletion => none

/-- R183: READ_STATUS, READ_ENTRY and READ_UNROUTED are the reads. Every other request is a write. -/
def isWrite (code : Nat) : Bool := !(code == 1 || code == 2 || code == 3)

/-- The work of each request at its owning block (Table 11-6), once it has been taken and checked. The events of the part are not
requests, and no record spells one. -/
def State.serve (c : Instr) (s : State) : State :=
  match c with
  | .readStatus sender _ => s.reqReadStatus sender
  | .readEntry sender _ kind arg position => s.reqReadEntry sender kind arg position
  | .readUnrouted sender _ => s.reqReadUnrouted sender
  | .clearFlags sender _ flags => s.reqClearFlags sender flags
  | .setMask sender _ masks => s.reqSetMask sender masks
  | .restart sender _ => s.reqRestart sender
  | .writeSettings sender _ fields => s.reqWriteSettings sender fields
  | .save sender _ => s.reqSave sender
  | .verify sender _ n expected => s.reqVerify sender n expected
  | .enrol sender _ station controls privilege => s.reqEnrol sender station controls privilege
  | .delete sender _ station => s.reqDelete sender station
  | .writeWindow sender _ index fields => s.reqWriteWindow sender index fields
  | .setWindow sender _ index enable => s.reqSetWindow sender index enable
  | .addGroupMember sender _ group circuit => s.reqAddGroupMember sender group circuit
  | .removeGroupMember sender _ group circuit => s.reqRemoveGroupMember sender group circuit
  | .setLevel sender _ circuit layer level fade => s.reqSetLevel sender circuit layer level fade
  | .releaseLayer sender _ layer first last => s.reqReleaseLayer sender layer first last
  | .setSceneEntry sender _ scene circuit level => s.reqSetSceneEntry sender scene circuit level
  | .clearSceneEntry sender _ scene circuit => s.reqClearSceneEntry sender scene circuit
  | .setSceneFade sender _ scene fade => s.reqSetSceneFade sender scene fade
  | .captureScene sender _ scene => s.reqCaptureScene sender scene
  | .setMode sender _ mode pin => s.reqSetMode sender mode pin
  | .fireCue sender _ cue => s.reqFireCue sender cue
  | .clearPending sender _ selector => s.reqClearPending sender selector
  | .setMaster sender _ master value => s.reqSetMaster sender master value
  | .writeCircuit sender _ circuit fields => s.reqWriteCircuit sender circuit fields
  | .powerOn | .powerLoss _ _ | .loadingEnd _ _ _ | .pollSent | .answerReceived _ | .answerWindowTimeout
  | .strayStationFrame _ | .lineLossTimerExpiry | .egressAssertion | .egressRelease | .cueInputDebounced _ _
  | .takeEventRecord | .claimActionGrant | .absenceGrant | .stationRemovalGrant | .claimTimerExpiry | .expiryGrant
  | .setLevelGrant | .releaseLayerGrant | .mergeRuleGrant | .recallGrant | .recallCompletion | .releaseGrant | .captureGrant
  | .cueGrant | .cueCompletion | .modeChangeGrant | .fadeStepTimerExpiry | .levelScheduleTimerExpiry
  | .statusScheduleTimerExpiry | .frameTransmitStart | .frameTransmitEnd | .returnTimeout | .loopFrameReceived _
  | .saveCompletion _ | .verifyCompletion => s

/-! ### Records (R183) -/

/-- A management record as it was received (Table 12-4). -/
structure Record where
  code : Nat
  tag : Nat
  checked : Bool
  payload : List Byte
  crcGood : Bool
  deriving DecidableEq, Repr

/-- R183: the checks of a taken record, in order, and the request's own work when it passes them. -/
def State.checkRecord (sender : Nat) (r : Record) (s : State) : State :=
  if r.checked && !r.crcGood then (s.report .mgmtCheck).complete sender .checkFailed []
  else
    match askedOf sender r.tag r.code r.payload with
    | .unknown => s.complete sender .unknownRequest []
    | .badLength => s.complete sender .outOfRange []
    | .command c => if !r.checked && isWrite r.code then s.complete sender .checkRequired [] else s.serve c

/-- R182, R183: a management record handed over with the number of its station. -/
def State.handRecord (sender : Nat) (r : Record) (s : State) : State :=
  s.takeRequest sender r.tag (State.checkRecord sender r)

end Sys2Proof.Machine
end

