-- ==== Sys2Proof/Machine/RequestCommands.lean ====
section
/-! DEFINITION. The commands of Table 11-6, one meaning each: a request that passed the checks of R183 is taken as R182 lays down, and its
owning block does its work (log entry 7). -/

namespace Sys2Proof.Machine

/-- READ_STATUS (R185). -/
def execReadStatus (sender tag : Nat) (s : State) : Host.Outcome State Fault Refusal :=
  .next (s.takeRequest sender tag (State.reqReadStatus sender))

/-- READ_ENTRY (R186). -/
def execReadEntry (sender tag : Nat) (kind arg position : Nat) (s : State) : Host.Outcome State Fault Refusal :=
  .next (s.takeRequest sender tag (State.reqReadEntry sender kind arg position))

/-- READ_UNROUTED (R198). -/
def execReadUnrouted (sender tag : Nat) (s : State) : Host.Outcome State Fault Refusal :=
  .next (s.takeRequest sender tag (State.reqReadUnrouted sender))

/-- CLEAR_FLAGS (R188). -/
def execClearFlags (sender tag : Nat) (flags : Word) (s : State) : Host.Outcome State Fault Refusal :=
  .next (s.takeRequest sender tag (State.reqClearFlags sender flags))

/-- SET_MASK (R189). -/
def execSetMask (sender tag : Nat) (masks : Word) (s : State) : Host.Outcome State Fault Refusal :=
  .next (s.takeRequest sender tag (State.reqSetMask sender masks))

/-- RESTART (R191). -/
def execRestart (sender tag : Nat) (s : State) : Host.Outcome State Fault Refusal :=
  .next (s.takeRequest sender tag (State.reqRestart sender))

/-- WRITE_SETTINGS (R180). -/
def execWriteSettings (sender tag : Nat) (fields : SettingsFields) (s : State) : Host.Outcome State Fault Refusal :=
  .next (s.takeRequest sender tag (State.reqWriteSettings sender fields))

/-- SAVE (R177). -/
def execSave (sender tag : Nat) (s : State) : Host.Outcome State Fault Refusal :=
  .next (s.takeRequest sender tag (State.reqSave sender))

/-- VERIFY (R179). -/
def execVerify (sender tag : Nat) (sectionCode : Nat) (expected : Word) (s : State) :
    Host.Outcome State Fault Refusal :=
  .next (s.takeRequest sender tag (State.reqVerify sender sectionCode expected))

/-- ENROL (R19). -/
def execEnrol (sender tag : Nat) (station controls privilege : Nat) (s : State) : Host.Outcome State Fault Refusal :=
  .next (s.takeRequest sender tag (State.reqEnrol sender station controls privilege))

/-- DELETE (R20). -/
def execDelete (sender tag : Nat) (station : Nat) (s : State) : Host.Outcome State Fault Refusal :=
  .next (s.takeRequest sender tag (State.reqDelete sender station))

/-- WRITE_WINDOW (R48). -/
def execWriteWindow (sender tag : Nat) (index : Nat) (fields : WindowFields) (s : State) :
    Host.Outcome State Fault Refusal :=
  .next (s.takeRequest sender tag (State.reqWriteWindow sender index fields))

/-- SET_WINDOW (R49). -/
def execSetWindow (sender tag : Nat) (index enable : Nat) (s : State) : Host.Outcome State Fault Refusal :=
  .next (s.takeRequest sender tag (State.reqSetWindow sender index enable))

/-- ADD_GROUP_MEMBER (R47). -/
def execAddGroupMember (sender tag : Nat) (group circuit : Nat) (s : State) : Host.Outcome State Fault Refusal :=
  .next (s.takeRequest sender tag (State.reqAddGroupMember sender group circuit))

/-- REMOVE_GROUP_MEMBER (R47). -/
def execRemoveGroupMember (sender tag : Nat) (group circuit : Nat) (s : State) : Host.Outcome State Fault Refusal :=
  .next (s.takeRequest sender tag (State.reqRemoveGroupMember sender group circuit))

/-- SET_LEVEL (R73). -/
def execSetLevel (sender tag : Nat) (circuit layer level fade : Nat) (s : State) : Host.Outcome State Fault Refusal :=
  .next (s.takeRequest sender tag (State.reqSetLevel sender circuit layer level fade))

/-- RELEASE_LAYER (R74). -/
def execReleaseLayer (sender tag : Nat) (layer first last : Nat) (s : State) : Host.Outcome State Fault Refusal :=
  .next (s.takeRequest sender tag (State.reqReleaseLayer sender layer first last))

/-- SET_SCENE_ENTRY (R80). -/
def execSetSceneEntry (sender tag : Nat) (scene circuit level : Nat) (s : State) : Host.Outcome State Fault Refusal :=
  .next (s.takeRequest sender tag (State.reqSetSceneEntry sender scene circuit level))

/-- CLEAR_SCENE_ENTRY (R81). -/
def execClearSceneEntry (sender tag : Nat) (scene circuit : Nat) (s : State) : Host.Outcome State Fault Refusal :=
  .next (s.takeRequest sender tag (State.reqClearSceneEntry sender scene circuit))

/-- SET_SCENE_FADE (R81). -/
def execSetSceneFade (sender tag : Nat) (scene fade : Nat) (s : State) : Host.Outcome State Fault Refusal :=
  .next (s.takeRequest sender tag (State.reqSetSceneFade sender scene fade))

/-- CAPTURE_SCENE (R92). -/
def execCaptureScene (sender tag : Nat) (scene : Nat) (s : State) : Host.Outcome State Fault Refusal :=
  .next (s.takeRequest sender tag (State.reqCaptureScene sender scene))

/-- SET_MODE (R107). -/
def execSetMode (sender tag : Nat) (mode pin : Nat) (s : State) : Host.Outcome State Fault Refusal :=
  .next (s.takeRequest sender tag (State.reqSetMode sender mode pin))

/-- FIRE_CUE (R100). -/
def execFireCue (sender tag : Nat) (cue : Nat) (s : State) : Host.Outcome State Fault Refusal :=
  .next (s.takeRequest sender tag (State.reqFireCue sender cue))

/-- CLEAR_PENDING (R98). -/
def execClearPending (sender tag : Nat) (selector : Nat) (s : State) : Host.Outcome State Fault Refusal :=
  .next (s.takeRequest sender tag (State.reqClearPending sender selector))

/-- SET_MASTER (R119). -/
def execSetMaster (sender tag : Nat) (master value : Nat) (s : State) : Host.Outcome State Fault Refusal :=
  .next (s.takeRequest sender tag (State.reqSetMaster sender master value))

/-- WRITE_CIRCUIT (R126). -/
def execWriteCircuit (sender tag : Nat) (circuit : Nat) (fields : CircuitFields) (s : State) :
    Host.Outcome State Fault Refusal :=
  .next (s.takeRequest sender tag (State.reqWriteCircuit sender circuit fields))

end Sys2Proof.Machine
end

