-- ==== Sys2Proof/Machine/StationLine.lean ====
section
/-! DEFINITION. The Station Line Controller (Chapter 1): the choice of visits, POLLs, answers and their judgement, misses, discovery,
and the frames of the line as bytes (R195). -/

namespace Sys2Proof.Machine

/-! ### Frames as bytes (Tables 12-2 and 12-5) -/

/-- A string of bytes with its CRC behind it (R193). -/
def withCrc (bytes : List Byte) : List Byte := bytes ++ wordBytes (crc16 bytes)

/-- Table 12-5. -/
def Reply.bytes (r : Reply) : List Byte :=
  withCrc ([byteOf r.tag, byteOf r.result.code, byteOf r.payload.length] ++ r.payload)

/-- The reply of a POLL as bytes, none for no reply. -/
def Poll.replyBytes (p : Poll) : List Byte :=
  match p.reply with
  | some r => r.bytes
  | none => []

/-- Table 12-2: a POLL as it is sent. -/
def Poll.bytes (p : Poll) : List Byte :=
  withCrc ([0x01#8, byteOf p.station, byteOf p.codes.length] ++ p.codes.map (fun c => byteOf c.code) ++
    [byteOf p.replyBytes.length] ++ p.replyBytes)

/-! ### Choosing the visit (R2, R3, R16) -/

/-- The line block replaced. -/
def State.withLine (l : LineBlock) (s : State) : State := { s with line := l }

/-- R2: whether an entry is polled in a cycle of a count. -/
def RosterEntry.qualifies (count : Nat) (e : RosterEntry) : Bool := e.live != .absent || count == 0

/-- R3: the next roster entry above a position whose live state qualifies it. -/
def LineBlock.nextEntry (above : Nat) (l : LineBlock) : Option RosterEntry :=
  l.roster.find? fun e => decide (above < e.station) && e.qualifies l.cycleCount

/-- R5, R14, R151: a roster entry is visited: its POLL is built from the codes of this moment, the one-shots that it carries leave
their slots, and the reply leaves its slot. -/
def State.visitEntry (e : RosterEntry) (s : State) : State :=
  let poll : Poll := { station := e.station, codes := s.pollCodes e.station e.controls, reply := e.slot }
  let taken := (s.takeShots e.station e.controls).modifyEntry e.station fun x => { x with slot := none }
  taken.withLine { taken.line with phase := .sending poll, position := .roster e.station }

/-- R5, R14: the service station is visited. -/
def State.visitService (s : State) : State :=
  s.withLine
    { s.line with
      phase := .sending { station := Config.serviceStation, codes := [], reply := s.line.serviceSlot }
      position := .service
      serviceSlot := none }

/-- R16: the number that a probe picks: the first at or above the pointer that has no roster entry, continuing from 249 to 1. -/
def State.probeNumber (s : State) : Nat :=
  (((List.range Config.stationMax).map fun k => (s.line.discovery - 1 + k) % Config.stationMax + 1).find? fun n =>
    !s.enrolled n).getD s.line.discovery

/-- R16, R5: a discovery probe; the pointer moves to the number after the one probed. -/
def State.visitProbe (s : State) : State :=
  s.withLine
    { s.line with
      phase := .sending { station := s.probeNumber, codes := [], reply := none }
      position := .probe
      discovery := s.probeNumber % Config.stationMax + 1 }

/-- R3: the visit after a roster position: the next entry, or else the service station. -/
def State.visitFrom (above : Nat) (s : State) : State :=
  match s.line.nextEntry above with
  | some e => s.visitEntry e
  | none => s.visitService

/-- R2: a cycle ends: the cycle count moves on, and the next cycle begins with the first roster entry. -/
def State.endCycle (s : State) : State :=
  (s.withLine { s.line with cycleCount := (s.line.cycleCount + 1) % 8 }).visitFrom 0

/-- R3: the next visit is chosen when the previous one is resolved. -/
def State.nextVisit (s : State) : State :=
  match s.line.position with
  | .roster n => s.visitFrom n
  | .service => if s.mgmt.settings.learn then s.visitProbe else s.endCycle
  | .probe => s.endCycle

/-! ### The sending of a POLL (R5, R14) -/

/-- R14: the reply of a POLL has been sent: its station's request in progress ends. -/
def State.replySent (p : Poll) (s : State) : State := if p.reply.isSome then s.endRequest p.station else s

/-- R14, R191: whether a POLL carries a reply to a RESTART request. -/
def State.carriesRestart (p : Poll) (s : State) : Bool := p.reply.isSome && s.mgmt.restartSet.contains p.station

/-- POLL_SENT (R5, R14): the answer window opens, or the restart begins. -/
def State.pollSent (s : State) : State :=
  match s.line.phase with
  | .sending p =>
    if s.carriesRestart p then s.enterLoading
    else (s.replySent p).withLine { s.line with phase := .awaiting p.station }
  | .quiet | .awaiting _ => s

/-! ### Answers as bytes (R6, Tables 12-3 and 12-4) -/

/-- An event record as it stands in an ANSWER. -/
structure RawEvent where
  control : Nat
  kind : Nat
  value : Nat
  deriving DecidableEq, Repr

/-- The content of a valid ANSWER. -/
inductive Answer where
  | events (l : List RawEvent)
  | management (r : Record)
  deriving DecidableEq, Repr

/-- The event records of a body whose length is a multiple of 4. -/
def rawEvents : List Byte → Option (List RawEvent)
  | [] => some []
  | c :: k :: v1 :: v0 :: rest =>
    (rawEvents rest).map fun l => { control := c.toNat, kind := k.toNat, value := ofBe16 v1 v0 } :: l
  | _ => none

/-- Table 12-4: the management record of a body whose length agrees with its payload length (log entry 11 for lengths above 239). -/
def recordOf : List Byte → Option Record
  | code :: tag :: flags :: p :: rest =>
    if p.toNat ≤ 239 ∧ rest.length = p.toNat + 2 then
      some
        { code := code.toNat, tag := tag.toNat, checked := flags.getLsbD 0, payload := rest.take p.toNat,
          crcGood := wordBytes (crc16 ([code, tag, flags, p] ++ rest.take p.toNat)) == rest.drop p.toNat }
    else none
  | _ => none

/-- The content that a content byte and a body spell. -/
def contentOf (content : Byte) (body : List Byte) : Option Answer :=
  match content.toNat with
  | 0 => if body.length ≤ 16 then (rawEvents body).map .events else none
  | 1 => (recordOf body).map .management
  | _ => none

/-- R6: the content of a received frame that is valid as an answer of the number polled; none for a bad frame. The bytes after the
length that the frame declares are no part of it (log entry 28). -/
def answerOf (polled : Nat) : List Byte → Option Answer
  | kind :: station :: content :: b :: rest =>
    let body := rest.take b.toNat
    if kind = 0x02#8 ∧ station.toNat = polled ∧ b.toNat + 2 ≤ rest.length ∧
        (rest.drop b.toNat).take 2 = wordBytes (crc16 ([kind, station, content, b] ++ body)) then contentOf content body
    else none
  | _ => none

/-- Table 12-3: an ANSWER as a station sends it. -/
def answerFrame (station content : Nat) (body : List Byte) : List Byte :=
  withCrc ([0x02#8, byteOf station, byteOf content, byteOf body.length] ++ body)

/-- Table 12-4: a checked management record as configuration software sends it. -/
def checkedRecord (code tag : Nat) (payload : List Byte) : List Byte :=
  withCrc ([byteOf code, byteOf tag, 0x01#8, byteOf payload.length] ++ payload)

/-- R195: an event record as a station sends it. -/
def RawEvent.bytes (r : RawEvent) : List Byte := [byteOf r.control, byteOf r.kind] ++ be16 r.value

/-! ### Resolving a visit (R7 to R12, R15, R16) -/

/-- R12: the event record that passes the check for a station with a control count. -/
def RawEvent.checked (station controls : Nat) (r : RawEvent) : Option EventRecord :=
  match eventKindOf r.kind with
  | some k =>
    if r.control < controls ∧ ¬(k = .value ∧ 1000 < r.value) then
      some { station := station, control := r.control, kind := k, value := r.value }
    else none
  | none => none

/-- R12, R23: the Route Resolver takes a number of records, one after another, from the head of the intake queue, as far as it may. The
claim action that it holds is granted before each of them where the arbiter may grant it, as R67 has it granted at once (log entry 32). -/
def State.takeHeads : Nat → State → State
  | 0, s => s
  | n + 1, s => State.takeHeads n s.claimActionGrant.takeEventRecord

/-- R12: one event record of an answer: offered to the intake queue, or discarded with STATION_FRAME. -/
def State.offerRaw (station controls : Nat) (r : RawEvent) (s : State) : State :=
  match r.checked station controls with
  | some e => s.offerEvent e
  | none => s.report .stationFrame

/-- R12: the event records of an answer, in order. The Route Resolver takes as many records from the head of the queue before each of
them as `takes` says (log entry 32). -/
def State.takeEvents (station controls : Nat) : List Nat → List RawEvent → State → State
  | _, [], s => s
  | takes, r :: rest, s =>
    State.takeEvents station controls takes.tail rest ((s.takeHeads (takes.headD 0)).offerRaw station controls r)

/-- R8, R13: the contents of a valid answer from an enrolled station. -/
def State.takeContents (station controls : Nat) (takes : List Nat) (a : Answer) (s : State) : State :=
  match a with
  | .events l => s.takeEvents station controls takes l
  | .management r => s.handRecord station r

/-- R8: a valid answer from an enrolled station. -/
def State.validAnswer (e : RosterEntry) (takes : List Nat) (a : Answer) (s : State) : State :=
  let heard := (s.modifyEntry e.station fun x => { x with live := .present, missed := 0 }).withdrawAbsence e.station
  heard.lineHeard.takeContents e.station e.controls takes a

/-- R9: a miss at a roster entry. -/
def State.miss (e : RosterEntry) (s : State) : State :=
  if e.live = .absent ∨ s.absenceWaiting e.station = true then s
  else
    let counted := s.modifyEntry e.station fun x => { x with missed := e.missed + 1 }
    if Config.missLimit ≤ e.missed + 1 then counted.request (.absence e.station) else counted

/-- R15: a valid answer of the service station. -/
def State.serviceAnswer (a : Answer) (s : State) : State :=
  match a with
  | .events _ => s
  | .management r => s.handRecord Config.serviceStation r

/-- R16: a valid discovery result. -/
def State.discovered (station : Nat) (s : State) : State :=
  if s.mgmt.settings.learn then s.offerUnrouted { station := station, control := 0, kind := .newStation } else s

/-- R7: a valid answer, judged by the roster as it stands. -/
def State.judgeValid (station : Nat) (takes : List Nat) (a : Answer) (s : State) : State :=
  match s.entryOf station with
  | some e => s.validAnswer e takes a
  | none => if station = Config.serviceStation then s.serviceAnswer a else s.discovered station

/-- R7, R9: a missing or bad answer, judged by the roster as it stands. It has no effect at 250 or at a number without an entry. -/
def State.judgeMiss (station : Nat) (s : State) : State :=
  match s.entryOf station with
  | some e => s.miss e
  | none => s

/-- R6, R7: a frame that began within the answer window of a number has ended. -/
def State.judgeFrame (station : Nat) (frame : Arrival) (s : State) : State :=
  match answerOf station frame.bytes with
  | some a => s.judgeValid station frame.takes a
  | none => (s.report .stationFrame).judgeMiss station

/-- ANSWER_RECEIVED (R6): the visit is resolved and the next one is chosen. -/
def State.answerReceived (frame : Arrival) (s : State) : State :=
  match s.line.phase with
  | .awaiting station => (s.judgeFrame station frame).nextVisit
  | .quiet | .sending _ => s

/-- ANSWER_WINDOW_TIMEOUT (R6): the answer is missing, and the next visit is chosen. -/
def State.answerTimeout (s : State) : State :=
  match s.line.phase with
  | .awaiting station => (s.judgeMiss station).nextVisit
  | .quiet | .sending _ => s

/-- STRAY_STATION_FRAME (R6): a frame outside an answer window is ignored, and no flag is set. -/
def State.strayFrame (_ : List Byte) (s : State) : State := s

/-- POLL_SENT (R5). -/
def execPollSent (s : State) : Host.Outcome State Fault Refusal := .next s.pollSent

/-- ANSWER_RECEIVED (R6). -/
def execAnswerReceived (frame : Arrival) (s : State) : Host.Outcome State Fault Refusal := .next (s.answerReceived frame)

/-- ANSWER_WINDOW_TIMEOUT (R6). -/
def execAnswerWindowTimeout (s : State) : Host.Outcome State Fault Refusal := .next s.answerTimeout

/-- STRAY_STATION_FRAME (R6). -/
def execStrayStationFrame (frame : List Byte) (s : State) : Host.Outcome State Fault Refusal := .next (s.strayFrame frame)

end Sys2Proof.Machine
end

