-- ==== Sys2Proof/Machine/StartUp.lean ====
section
/-! DEFINITION. The end of loading (R173) with the entries to RUNNING (R174) and UNCONFIGURED (R175). -/

namespace Sys2Proof.Machine

/-- The EGRESS sample and the states of the two cue contacts at the end of loading (R161, R99). -/
structure Contacts where
  egress : EgressSample
  cueA : Bool
  cueB : Bool
  deriving DecidableEq, Repr

/-- R123, R129: the Level Engine's circuit at entry: level 0, with its output code computed. -/
def EngineCircuit.atEntry (a : Attr) : EngineCircuit :=
  EngineCircuit.recoded (Vector.replicate 4 1000) (EngineCircuit.initial a)

/-- R161: the debounced state that a sample sets. -/
def Contacts.egressAsserted (x : Contacts) : Bool :=
  match x.egress with
  | .released => false
  | .asserted _ => true

/-- R149, R174: whether the first LEVEL frame is built before the sample is applied. -/
def Contacts.builtFirst (x : Contacts) : Bool :=
  match x.egress with
  | .released => false
  | .asserted built => built

/-- R173 to R175: the tables in place, the part state and the image condition, and the debounced states set from the inputs. -/
def State.install (part : Part) (t : Tables) (valid : Bool) (x : Contacts) (s : State) : State :=
  { s with
    part := part
    line := { s.line with roster := t.roster }
    route := { s.route with windows := t.windows, groups := t.groups }
    claims := { s.claims with egressAsserted := x.egressAsserted }
    player := { s.player with scenes := t.scenes }
    cues := { s.cues with cueA := x.cueA, cueB := x.cueB }
    engine := { s.engine with circuits := mapTable (fun _ a => EngineCircuit.atEntry a) t.attrs }
    store := { s.store with valid := valid }
    mgmt := { s.mgmt with settings := t.settings } }

/-- R161: the EGRESS sample: the assertion write when the input is asserted. -/
def State.egressSample (s : State) : State := if s.claims.egressAsserted then s.egressWrite else s

/-- R94: the recall of the power-on scene is placed when the settings name one. -/
def State.powerOnRecall (s : State) : State :=
  match s.mgmt.settings.powerOnScene with
  | some n => s.request (.recall n none)
  | none => s

/-- R132: the first LEVEL frame, of segment 0, falls due as the schedule starts. -/
def State.startSchedule (s : State) : State := s.withLoop (s.loop.levelDue 0)

/-- R149, R174: the start of the schedule and the EGRESS sample, in either order. The first LEVEL frame is built before the sample from
the codes that the entry computed, or it waits, the sample taken, for its FRAME_TRANSMIT_START. -/
def State.scheduleAndSample (builtFirst : Bool) (s : State) : State :=
  if builtFirst then s.startSchedule.transmitStart.egressSample else s.egressSample.startSchedule

/-- R174: entry to RUNNING (log entry 20). -/
def State.enterRunning (t : Tables) (x : Contacts) (s : State) : State :=
  (((s.install .running t true x).scheduleAndSample x.builtFirst).powerOnRecall.startLossTimer).visitFrom 0

/-- R175: entry to UNCONFIGURED. -/
def State.enterUnconfigured (x : Contacts) (s : State) : State :=
  (((s.install .unconfigured Tables.default false x).report .storeFault).egressSample).visitFrom 0

/-- LOADING_END (R173). -/
def State.loadingEnd (x : Contacts) (s : State) : State :=
  if s.powered = true ∧ s.part = .loading then
    match loadImage s.store.image with
    | some t => s.enterRunning t x
    | none => s.enterUnconfigured x
  else s

/-- LOADING_END (R173). -/
def execLoadingEnd (egress : EgressSample) (cueA cueB : Bool) (s : State) : Host.Outcome State Fault Refusal :=
  .next (s.loadingEnd { egress := egress, cueA := cueA, cueB := cueB })

end Sys2Proof.Machine
end

