-- ==== Sys2Proof/Machine/Dispatch.lean ====
section
/-! DEFINITION. The dispatch: one arm for each command. -/

namespace Sys2Proof.Machine

/-- What a command does to everything but the queue. -/
def exec (i : Instr) (s : State) : Host.Outcome State Fault Refusal :=
  match i with
  | .powerOn => Sys2Proof.Machine.execPowerOn s
  | .powerLoss written rest => Sys2Proof.Machine.execPowerLoss written rest s
  | .loadingEnd egress cueA cueB => Sys2Proof.Machine.execLoadingEnd egress cueA cueB s
  | .pollSent => Sys2Proof.Machine.execPollSent s
  | .answerReceived frame => Sys2Proof.Machine.execAnswerReceived frame s
  | .answerWindowTimeout => Sys2Proof.Machine.execAnswerWindowTimeout s
  | .strayStationFrame frame => Sys2Proof.Machine.execStrayStationFrame frame s
  | .lineLossTimerExpiry => Sys2Proof.Machine.execLineLossTimerExpiry s
  | .egressAssertion => Sys2Proof.Machine.execEgressAssertion s
  | .egressRelease => Sys2Proof.Machine.execEgressRelease s
  | .cueInputDebounced cue asserted => Sys2Proof.Machine.execCueInputDebounced cue asserted s
  | .takeEventRecord => Sys2Proof.Machine.execTakeEventRecord s
  | .claimActionGrant => Sys2Proof.Machine.execClaimActionGrant s
  | .absenceGrant => Sys2Proof.Machine.execAbsenceGrant s
  | .stationRemovalGrant => Sys2Proof.Machine.execStationRemovalGrant s
  | .claimTimerExpiry => Sys2Proof.Machine.execClaimTimerExpiry s
  | .expiryGrant => Sys2Proof.Machine.execExpiryGrant s
  | .setLevelGrant => Sys2Proof.Machine.execSetLevelGrant s
  | .releaseLayerGrant => Sys2Proof.Machine.execReleaseLayerGrant s
  | .mergeRuleGrant => Sys2Proof.Machine.execMergeRuleGrant s
  | .recallGrant => Sys2Proof.Machine.execRecallGrant s
  | .recallCompletion => Sys2Proof.Machine.execRecallCompletion s
  | .releaseGrant => Sys2Proof.Machine.execReleaseGrant s
  | .captureGrant => Sys2Proof.Machine.execCaptureGrant s
  | .cueGrant => Sys2Proof.Machine.execCueGrant s
  | .cueCompletion => Sys2Proof.Machine.execCueCompletion s
  | .modeChangeGrant => Sys2Proof.Machine.execModeChangeGrant s
  | .fadeStepTimerExpiry => Sys2Proof.Machine.execFadeStepTimerExpiry s
  | .levelScheduleTimerExpiry => Sys2Proof.Machine.execLevelScheduleTimerExpiry s
  | .statusScheduleTimerExpiry => Sys2Proof.Machine.execStatusScheduleTimerExpiry s
  | .frameTransmitStart => Sys2Proof.Machine.execFrameTransmitStart s
  | .frameTransmitEnd => Sys2Proof.Machine.execFrameTransmitEnd s
  | .returnTimeout => Sys2Proof.Machine.execReturnTimeout s
  | .loopFrameReceived bits => Sys2Proof.Machine.execLoopFrameReceived bits s
  | .saveCompletion readBack => Sys2Proof.Machine.execSaveCompletion readBack s
  | .verifyCompletion => Sys2Proof.Machine.execVerifyCompletion s
  | .readStatus sender tag => Sys2Proof.Machine.execReadStatus sender tag s
  | .readEntry sender tag kind arg position => Sys2Proof.Machine.execReadEntry sender tag kind arg position s
  | .readUnrouted sender tag => Sys2Proof.Machine.execReadUnrouted sender tag s
  | .clearFlags sender tag flags => Sys2Proof.Machine.execClearFlags sender tag flags s
  | .setMask sender tag masks => Sys2Proof.Machine.execSetMask sender tag masks s
  | .restart sender tag => Sys2Proof.Machine.execRestart sender tag s
  | .writeSettings sender tag fields => Sys2Proof.Machine.execWriteSettings sender tag fields s
  | .save sender tag => Sys2Proof.Machine.execSave sender tag s
  | .verify sender tag sectionCode expected => Sys2Proof.Machine.execVerify sender tag sectionCode expected s
  | .enrol sender tag station controls privilege => Sys2Proof.Machine.execEnrol sender tag station controls privilege s
  | .delete sender tag station => Sys2Proof.Machine.execDelete sender tag station s
  | .writeWindow sender tag index fields => Sys2Proof.Machine.execWriteWindow sender tag index fields s
  | .setWindow sender tag index enable => Sys2Proof.Machine.execSetWindow sender tag index enable s
  | .addGroupMember sender tag group circuit => Sys2Proof.Machine.execAddGroupMember sender tag group circuit s
  | .removeGroupMember sender tag group circuit => Sys2Proof.Machine.execRemoveGroupMember sender tag group circuit s
  | .setLevel sender tag circuit layer level fade => Sys2Proof.Machine.execSetLevel sender tag circuit layer level fade s
  | .releaseLayer sender tag layer first last => Sys2Proof.Machine.execReleaseLayer sender tag layer first last s
  | .setSceneEntry sender tag scene circuit level => Sys2Proof.Machine.execSetSceneEntry sender tag scene circuit level s
  | .clearSceneEntry sender tag scene circuit => Sys2Proof.Machine.execClearSceneEntry sender tag scene circuit s
  | .setSceneFade sender tag scene fade => Sys2Proof.Machine.execSetSceneFade sender tag scene fade s
  | .captureScene sender tag scene => Sys2Proof.Machine.execCaptureScene sender tag scene s
  | .setMode sender tag mode pin => Sys2Proof.Machine.execSetMode sender tag mode pin s
  | .fireCue sender tag cue => Sys2Proof.Machine.execFireCue sender tag cue s
  | .clearPending sender tag selector => Sys2Proof.Machine.execClearPending sender tag selector s
  | .setMaster sender tag master value => Sys2Proof.Machine.execSetMaster sender tag master value s
  | .writeCircuit sender tag circuit fields => Sys2Proof.Machine.execWriteCircuit sender tag circuit fields s

end Sys2Proof.Machine
end

