-- ==== Sys2Proof/Safety.lean ====
section
/-! DEFINITION. The laws that a run of the part keeps, and the words in which the statements speak of replies and of what a step leaves
as it was. -/

namespace Sys2Proof.Machine

/-! ### Laws of the state -/

/-- R21, R22, R76, R82, R111, R129, R149, R160, R181, R192: in LOADING every block holds its values after power-on. -/
def State.FreshInLoading (s : State) : Prop := s.part = .loading → s.enterLoading = s

/-- R51: the pool records in use. -/
def State.poolInUse (s : State) : Nat := (allCircuits.map fun c => (s.circ c).claims.length).sum

/-- R50 to R52: every pool record is free or in one list, a list holds at most 8 claims, and no two claims of a list share layer and
owner. -/
def State.ClaimLaw (s : State) : Prop :=
  s.claims.poolFree + s.poolInUse = Config.poolSize ∧
  ∀ c : Circuit, (s.circ c).claims.length ≤ Config.listMax ∧ (s.circ c).claims.Pairwise fun a b => a.sameAs b = false

/-- R61: the Level Engine's published copy agrees with the held values. -/
def State.HeldLaw (s : State) : Prop :=
  ∀ c : Circuit, (s.eng c).target = (s.circ c).target ∧ (s.eng c).safety = ((s.circ c).winner == .safety)

/-- Whether a merge-rule request for a circuit waits (R75). -/
def State.ruleWaits (c : Circuit) (s : State) : Bool :=
  s.claims.order.any fun r =>
    match r with
    | .mergeRule _ k _ => k == c
    | _ => false

/-- R61, R63, R64, R75: outside a change set no circuit is entered, and a circuit that is not entered and for which no merge-rule
request waits holds the target and winning layer that its list, slots, merge rule and the mode give. -/
def State.MergeLaw (s : State) : Prop :=
  ∀ c : Circuit, (s.claims.openSet = none → (s.circ c).entry = none) ∧
    ((s.circ c).entry = none → s.ruleWaits c = false → ((s.circ c).target, (s.circ c).winner) = s.mergeOf c)

/-- R127, R162, R163: the EGRESS slots. While the input is asserted, each egress-flagged circuit's slot holds its egress level; every
other EGRESS slot is empty. -/
def State.EgressLaw (s : State) : Prop :=
  ∀ c : Circuit, (s.circ c).egress =
    if s.claims.egressAsserted ∧ (s.eng c).attr.egress then some (s.eng c).attr.egressLevel else none

/-- R164, R166: the LOSS slots are empty while line loss is not declared. -/
def State.LossLaw (s : State) : Prop := s.line.lossDeclared = false → ∀ c : Circuit, (s.circ c).loss = none

/-- R10: a station in state ABSENT owns no MOMENTARY claim. -/
def State.AbsenceLaw (s : State) : Prop :=
  ∀ station : Nat, s.absent station = true →
    ∀ c : Circuit, ∀ cl ∈ (s.circ c).claims, cl.ofStation station = true → cl.kind ≠ .momentary

/-- R1, R9, R19: the roster is ascending, holds at most 120 entries, and each entry keeps its ranges; an entry that is not ABSENT and
has missed 3 answers has an absence request waiting. -/
def State.RosterLaw (s : State) : Prop :=
  s.line.roster.Pairwise (fun a b => a.station < b.station) ∧ s.line.roster.length ≤ Config.rosterMax ∧
  ∀ e ∈ s.line.roster, 1 ≤ e.station ∧ e.station ≤ Config.stationMax ∧ 1 ≤ e.controls ∧ e.controls ≤ 32 ∧
    e.missed ≤ Config.missLimit ∧
    (e.missed = Config.missLimit → e.live = .absent ∨ s.absenceWaiting e.station = true)

/-- R22, R83, R95, R101, R155, R197: the queues and lists stay within their capacities. The pending list and the unrouted queue hold
no two records that are equal in the fields that the rules name, and at most one recall or release of a window and one cue request
of each cue wait. -/
def State.QueueLaw (s : State) : Prop :=
  s.route.intake.length ≤ Config.intakeMax ∧
  s.cues.pendings.length ≤ Config.pendingMax ∧ s.cues.pendings.Pairwise (fun p q => p.sameAs q = false) ∧
  s.mgmt.unrouted.length ≤ Config.unroutedMax ∧ s.mgmt.unrouted.Nodup ∧
  s.feedback.confirmations.length ≤ Config.confirmMax ∧
  s.feedback.confirmations.Pairwise (fun a b => ¬(a.station = b.station ∧ a.control = b.control)) ∧
  (s.claims.order.filter fun q => q.windowAsker.isSome).length ≤ 1 ∧
  (s.claims.order.filter fun q => q.isCue .a).length ≤ 1 ∧ (s.claims.order.filter fun q => q.isCue .b).length ≤ 1

/-- R131, R134, R135: no frame waits, is sent or is outstanding outside RUNNING; at most 2 frames are outstanding; at most one LEVEL
frame of a segment and one STATUS frame wait. -/
def State.LoopLaw (s : State) : Prop :=
  (s.part ≠ .running → s.loop.waiting = [] ∧ s.loop.transmitter = none ∧ s.loop.outstanding = []) ∧
  s.loop.outstanding.length ≤ Config.outstandingMax ∧
  s.loop.waiting.Pairwise fun a b => a.kind ≠ b.kind ∨ (a.kind = .level ∧ a.segment ≠ b.segment)

/-! ### Ranges -/

/-- Table 10-5: the settings record keeps its ranges, and no mask stands for a flag that has none (R189). -/
def Settings.Good (t : Settings) : Prop :=
  5 ≤ t.lineLoss ∧ t.lineLoss ≤ 100 ∧ t.modeFade ≤ 6000 ∧ t.recoveryFade ≤ 6000 ∧ storedMasks t.masks = t.masks

/-- Table 2-2: a window keeps its ranges. -/
def Window.Good (w : Window) : Prop :=
  1 ≤ w.stationFirst ∧ w.stationFirst ≤ w.stationLast ∧ w.stationLast ≤ Config.stationMax ∧
  w.controlFirst ≤ w.controlLast ∧ w.controlLast ≤ 31 ∧ w.rowPitch ≤ 512 ∧ w.layer ≠ .scene ∧ w.level ≤ 1000 ∧
  1 ≤ w.step ∧ w.step ≤ 250 ∧ w.fade ≤ 6000 ∧ 1 ≤ w.hold ∧ w.hold ≤ 7200

/-- Table 6-4: an attribute record keeps its ranges. -/
def Attr.Good (a : Attr) : Prop :=
  a.preheat ≤ 200 ∧ a.preheat ≤ a.topSet ∧ a.topSet ≤ 1000 ∧ 1 ≤ a.switchPoint ∧ a.switchPoint ≤ 1000 ∧
  a.defaultFade ≤ 6000 ∧ a.egressLevel ≤ 1000 ∧ a.lossLevel ≤ 1000

/-- R77: a scene keeps its ranges, its entries ascending without repeats. -/
def SceneRecord.Good (r : SceneRecord) : Prop :=
  r.fade ≤ 6000 ∧ r.entries.Pairwise (fun a b => a.circuit < b.circuit) ∧ ∀ e ∈ r.entries, e.level ≤ 1000

/-- R173: the limits that the live tables keep. -/
def Tables.Good (t : Tables) : Prop :=
  t.settings.Good ∧
  (t.roster.Pairwise (fun a b => a.station < b.station) ∧ t.roster.length ≤ Config.rosterMax ∧
    ∀ e ∈ t.roster, 1 ≤ e.station ∧ e.station ≤ Config.stationMax ∧ 1 ≤ e.controls ∧ e.controls ≤ 32) ∧
  (∀ w ∈ t.windows.toList, w.Good) ∧
  ((∀ g ∈ t.groups.toList, g.Pairwise (· < ·) ∧ g.length ≤ Config.groupMax) ∧
    (t.groups.toList.map (·.length)).sum ≤ Config.groupPlaces) ∧
  ((∀ r ∈ t.scenes.toList, r.Good) ∧ (t.scenes.toList.map (·.entries.length)).sum ≤ Config.scenePlaces) ∧
  ∀ a ∈ t.attrs.toList, a.Good

/-- The levels of a claim work lie in 0 to 1000. -/
def ClaimWork.Good : ClaimWork → Prop
  | .setLevel level _ | .toggle level _ | .press level _ | .timed level _ _ => level ≤ 1000
  | .fader value level _ => value ≤ 1000 ∧ level ≤ 1000
  | .clear | .release | .raise _ _ | .lower _ _ => True

/-- The levels of a pending record's work lie in 0 to 1000. -/
def PendingWork.Good : PendingWork → Prop
  | .claim _ work _ => work.Good
  | .scene _ | .sceneOff => True

/-- The levels of a waiting request lie in 0 to 1000. -/
def Request.Good : Request → Prop
  | .claimAction a => a.work.Good
  | .setLevel _ _ _ level _ _ => level ≤ 1000
  | .cue _ records _ => ∀ p ∈ records, p.work.Good
  | .absence _ | .removal _ | .expiry | .releaseLayer _ _ _ _ | .mergeRule _ _ _ | .recall _ _ | .release _ | .capture _ _
  | .modeAction _ _ _ | .modeSet _ _ => True

/-- R22, R50, R53, R61, R115, R117, R173: every level, target and master of the part lies in 0 to 1000, and the live tables keep
their limits. -/
def State.RangeLaw (s : State) : Prop :=
  s.tables.Good ∧ (∀ r ∈ s.claims.order, r.Good) ∧ (∀ p ∈ s.cues.pendings, p.work.Good) ∧
  (∀ r ∈ s.route.intake, r.kind = .value → r.value ≤ 1000) ∧ (∀ v ∈ s.engine.masters.toList, v ≤ 1000) ∧
  ∀ c : Circuit,
    (∀ cl ∈ (s.circ c).claims, cl.level ≤ 1000) ∧ (∀ v ∈ (s.circ c).egress, v ≤ 1000) ∧
    (∀ v ∈ (s.circ c).loss, v ≤ 1000) ∧ (s.circ c).target ≤ 1000 ∧
    (s.eng c).fadeStart ≤ 1000 ∧ (s.eng c).fadeTarget ≤ 1000 ∧ (s.eng c).level ≤ 1000 ∧ (s.eng c).code ≤ 65535

/-! ### Replies -/

/-- The reply that waits in the slot of a station (R14). -/
def State.replyOf (station : Nat) (s : State) : Option Reply :=
  match s.entryOf station with
  | some e => e.slot
  | none => if station = Config.serviceStation then s.line.serviceSlot else none

/-- The state with every reply slot empty and no request in progress, by which two states are compared apart from these. -/
def State.withoutReplies (s : State) : State :=
  { s with
    line := { s.line with roster := s.line.roster.map fun e => { e with slot := none }, serviceSlot := none }
    mgmt := { s.mgmt with requests := [] } }

/-- R14, R182, R184: of two states, the second differs from `u` by the reply of one station's request alone: the reply waits in that
station's slot with its tag, the request is in progress, and the replies and requests of every other station are those of `s`. -/
def State.Answered (sender tag : Nat) (result : Result) (payload : List Byte) (s u t : State) : Prop :=
  t.replyOf sender = some { tag := tag, result := result, payload := payload } ∧ t.tagOf sender = some tag ∧
  (∀ other : Nat, other ≠ sender → t.replyOf other = s.replyOf other ∧ t.tagOf other = s.tagOf other) ∧
  t.withoutReplies = u.withoutReplies

/-- R182, R184: a station's request with its tag is in progress and its reply is still to come; everything else is `u`. -/
def State.Waiting (sender tag : Nat) (s u t : State) : Prop :=
  t.tagOf sender = some tag ∧ (∀ other : Nat, other ≠ sender → t.tagOf other = s.tagOf other) ∧
  t = { u with mgmt := { u.mgmt with requests := t.mgmt.requests } }

/-! ### Circuits at the close of a change set -/

/-- R58, R63, R64: what the close of a change set does to one circuit between two states. A circuit that the set did not enter (no
fade) stays as it was. An entered circuit holds the new list, its merge, and no entry, and is published with the fade exactly when its
target or winning layer changed. -/
def CircuitClosed (s t : State) (c : Circuit) (claims : List Claim) : Option Nat → Prop
  | none => t.circ c = s.circ c ∧ t.eng c = s.eng c
  | some fade =>
    let merged := mergeCircuit t.cues.mode (s.eng c).attr.mergeRule { s.circ c with claims := claims }
    t.circ c = { s.circ c with claims := claims, target := merged.1, winner := merged.2, entry := none } ∧
    t.eng c =
      if ((s.circ c).target, (s.circ c).winner) = merged then s.eng c
      else (s.eng c).published s.engine.masters { target := merged.1, winner := merged.2, fade := fade }

/-- R58, R64: every circuit after a set that removed the claims that satisfy `gone` and closed. -/
def RemovedAndClosed (s t : State) (gone : Circuit → Claim → Bool) : Prop :=
  t.claims.openSet = none ∧ t.claims.poolFree = s.claims.poolFree + s.removedCount gone ∧
  ∀ c : Circuit,
    CircuitClosed s t c ((s.circ c).claims.filter fun cl => !gone c cl)
      (((s.circ c).claims.filter (gone c)).getLast?.map (·.fade))

/-- R58, R63: every circuit after a removal of the claims that satisfy `gone` within a set that stays open. -/
def RemovedInSet (s t : State) (gone : Circuit → Claim → Bool) : Prop :=
  t.claims.poolFree = s.claims.poolFree + s.removedCount gone ∧
  ∀ c : Circuit, t.circ c =
    match ((s.circ c).claims.filter (gone c)).getLast? with
    | some last =>
      { s.circ c with claims := (s.circ c).claims.filter fun cl => !gone c cl, entry := some last.fade }
    | none => s.circ c

/-- R166: what LINE_OK does to the circuits between two states. A circuit whose LOSS slot held a level falls to its EGRESS level, or
else to its claims, and is published with the recovery fade exactly when its target or winning layer changed. Every other circuit stays
as it was. -/
def LossEnded (s t : State) : Prop :=
  ∀ c : Circuit,
    ((s.circ c).loss = none → t.circ c = s.circ c ∧ t.eng c = s.eng c) ∧
    ((s.circ c).loss.isSome = true →
      let merged := match (s.circ c).egress with
        | some level => (level, WinLayer.safety)
        | none => mergeClaims s.cues.mode (s.eng c).attr.mergeRule (s.circ c).claims
      t.circ c = { s.circ c with loss := none, target := merged.1, winner := merged.2 } ∧
      t.eng c =
        if ((s.circ c).target, (s.circ c).winner) = merged then s.eng c
        else (s.eng c).published s.engine.masters
          { target := merged.1, winner := merged.2, fade := s.mgmt.settings.recoveryFade })

/-- R67: the arbiter may grant: the part is outside LOADING, no change set is open and no circuit is entered. -/
def State.ArbiterFree (s : State) : Prop :=
  s.part ≠ .loading ∧ s.claims.openSet = none ∧ ∀ c : Circuit, (s.circ c).entry = none

/-- R67: the arbiter may grant, and this request is at the head. -/
def State.Grants (r : Request) (rest : List Request) (s : State) : Prop := s.ArbiterFree ∧ s.claims.order = r :: rest

/-- R14: a reply of the station's request in progress can be placed: the request has this tag, and the station has a slot. -/
def State.Awaits (sender tag : Nat) (s : State) : Prop :=
  s.tagOf sender = some tag ∧ (s.enrolled sender = true ∨ sender = Config.serviceStation)

/-- Whether a one-shot of a station control waits (R150): true for ACK, false for NACK. -/
def State.shotOf (station control : Nat) (s : State) : Option Bool :=
  (s.feedback.shots.find? fun o => o.station == station && o.control == control).map (·.ack)

/-- R144, R145: what a failed return does between two states: the frame leaves the outstanding list, the failure count rises, the OPEN
run is as given, the fault is recorded whole, the flags of the given word are set, and the Feedback Tracker is left as given (R147).
Nothing else changes. -/
def LoopFailure (s t : State) (kind : FaultKind) (g : Segment) (circuit : Option Circuit) (openRun : Nat)
    (rest : List Outstanding) (flags : Word) (feedback : FeedbackBlock) : Prop :=
  t = { s with
    loop :=
      { s.loop with
        outstanding := rest
        failures := min 255 (s.loop.failures + 1)
        openRun := openRun
        fault := some { kind := kind, segment := g, circuit := circuit, count := min 255 (s.loop.failures + 1) } }
    mgmt := { s.mgmt with flags := s.mgmt.flags ||| flags }
    feedback := feedback }

/-! ### Visits -/

/-- R2, R3: an entry is the next above a position that qualifies in a cycle of a count. -/
def NextAbove (above count : Nat) (e : RosterEntry) (s : State) : Prop :=
  e ∈ s.line.roster ∧ above < e.station ∧ (e.live ≠ .absent ∨ count = 0) ∧
  ∀ x ∈ s.line.roster, above < x.station → x.station < e.station → x.live = .absent ∧ count ≠ 0

/-- R2, R3: no entry above a position qualifies in a cycle of a count. -/
def NoneAbove (above count : Nat) (s : State) : Prop :=
  ∀ x ∈ s.line.roster, above < x.station → x.live = .absent ∧ count ≠ 0

/-- R5, R14, R151: between two states a roster entry is visited: its POLL carries the codes and the reply that waited, the reply has
left its slot, and the one-shots of its controls have left theirs. -/
def EntryVisited (e : RosterEntry) (s t : State) : Prop :=
  t.line.position = .roster e.station ∧
  t.line.phase = .sending { station := e.station, codes := s.pollCodes e.station e.controls, reply := e.slot } ∧
  t.replyOf e.station = none ∧
  ∀ st k, t.shotOf st k = if st = e.station ∧ k < e.controls then none else s.shotOf st k

/-- R5, R14: between two states the service station is visited. -/
def ServiceVisited (s t : State) : Prop :=
  t.line.position = .service ∧ t.line.serviceSlot = none ∧ t.feedback = s.feedback ∧
  t.line.phase = .sending { station := Config.serviceStation, codes := [], reply := s.line.serviceSlot }

/-- R2, R3, R16: between two states the next visit is chosen: the next qualifying entry above the position, then the service station,
then a probe while learn is on, then a new cycle, which begins with its first qualifying entry, or with the service station. -/
def VisitChosen (s t : State) : Prop :=
  (∀ k, s.line.position = .roster k → t.line.cycleCount = s.line.cycleCount ∧
    (∀ e, NextAbove k s.line.cycleCount e s → EntryVisited e s t) ∧ (NoneAbove k s.line.cycleCount s → ServiceVisited s t)) ∧
  (s.line.position = .service → s.mgmt.settings.learn = true → 1 ≤ s.line.discovery → s.line.discovery ≤ Config.stationMax →
    t.line.cycleCount = s.line.cycleCount ∧
    ∃ j < Config.stationMax, ∃ p, p = (s.line.discovery - 1 + j) % Config.stationMax + 1 ∧ s.enrolled p = false ∧
      (∀ i < j, s.enrolled ((s.line.discovery - 1 + i) % Config.stationMax + 1) = true) ∧
      t.line.position = .probe ∧ t.line.discovery = p % Config.stationMax + 1 ∧ t.feedback = s.feedback ∧
      t.line.phase = .sending { station := p, codes := [], reply := none }) ∧
  (s.line.position = .probe ∨ (s.line.position = .service ∧ s.mgmt.settings.learn = false) →
    t.line.cycleCount = (s.line.cycleCount + 1) % 8 ∧
    (∀ e, NextAbove 0 t.line.cycleCount e s → EntryVisited e s t) ∧ (NoneAbove 0 t.line.cycleCount s → ServiceVisited s t))

/-! ### Taken records -/

/-- R23: the Route Resolver may take a record, and this one is at the head of the intake queue. -/
def State.TakesHead (r : EventRecord) (rest : List EventRecord) (s : State) : Prop :=
  s.part ≠ .loading ∧ s.claims.order.any Request.heldByResolver = false ∧ s.recallInFlight = false ∧ s.route.intake = r :: rest

/-- R25, R28: a taken record's station has a roster entry, and this window is the first that matches the record. -/
def State.Matched (r : EventRecord) (e : RosterEntry) (i : WindowIndex) (s : State) : Prop :=
  s.entryOf r.station = some e ∧ (s.window i).matchesRecord r = true ∧ ∀ j < i, (s.window j).matchesRecord r = false

/-- R26: the actions that are claim actions. -/
def Action.isClaim : Action → Prop
  | .setLevel | .toggle | .clear | .momentary | .timed | .raise | .lower | .fader => True
  | .master _ | .scene _ | .sceneOff | .mode _ | .cue _ => False

/-- R29, R30: a matched record is refused by the privilege check or, in PERFORMANCE, by one of the show checks. -/
def State.Refuses (w : Window) (r : EventRecord) (e : RosterEntry) (s : State) : Prop :=
  (((∃ op, w.action = .mode op) ∨ ∃ x, w.action = .cue x) ∧ e.privilege = .nothing) ∨
  (s.cues.mode = .performance ∧ ¬(w.action = .momentary ∧ r.kind = .release) ∧
    ¬(w.action = .fader ∧ r.kind = .value ∧ r.value = 0) ∧
    (w.showSafe = false ∨ (w.action.isClaim ∧ w.layer = .work)))

/-- Table 2-3: the work of a claim action's window for a record: the quantities that the action reads, by the record's kind. -/
def Window.WorkIs (w : Window) (r : EventRecord) (work : ClaimWork) : Prop :=
  (w.action = .setLevel ∧ work = .setLevel w.level w.fade) ∨ (w.action = .toggle ∧ work = .toggle w.level w.fade) ∨
  (w.action = .clear ∧ work = .clear) ∨ (w.action = .momentary ∧ r.kind ≠ .release ∧ work = .press w.level w.fade) ∨
  (w.action = .momentary ∧ r.kind = .release ∧ work = .release) ∨
  (w.action = .timed ∧ work = .timed w.level w.fade w.hold) ∨ (w.action = .raise ∧ work = .raise w.step w.fade) ∨
  (w.action = .lower ∧ work = .lower w.step w.fade) ∨ (w.action = .fader ∧ work = .fader r.value w.level w.fade)

/-- R96: between two states a deferred record is offered to the pending list: it takes the place of the record with its owner, window
and cue, at the tail, or joins a list with room, or is refused with PENDING_FULL and NACK. -/
def PendingOffered (p : Pending) (s t : State) : Prop :=
  let same : Pending → Bool := fun q => q.sameAs p
  (s.cues.pendings.any same = true ∨ s.cues.pendings.length < 32 →
    t = { s with cues := { s.cues with pendings := s.cues.pendings.filter (fun q => !same q) ++ [p] } }) ∧
  (s.cues.pendings.any same = false → 32 ≤ s.cues.pendings.length →
    t = State.outcome p.station p.control false { s with mgmt := { s.mgmt with flags := s.mgmt.flags ||| 0x0800#16 } })

/-- R83: between two states a recall or release of a window is handed to the Scene Player: it joins the waiting order, or takes the place
of the one that waits there, whose owner is given NACK. -/
def SceneHanded (q : Request) (s t : State) : Prop :=
  ((∀ y ∈ s.claims.order, y.windowAsker = none) → t = { s with claims := { s.claims with order := s.claims.order ++ [q] } }) ∧
  ∀ before y after old, s.claims.order = before ++ y :: after → y.windowAsker = some old →
    (∀ z ∈ before ++ after, z.windowAsker = none) →
    t = State.outcome old.station old.control false { s with claims := { s.claims with order := before ++ q :: after } }

/-- R101: between two states a cue event takes the records of its cue in list order: they join the waiting request of the cue, after
its own, or wait as a request of their own. Without a record nothing happens. -/
def CueTaken (x : Cue) (fires : List Fire) (s t : State) : Prop :=
  let took := s.cues.pendings.filter fun p => p.cue == x
  let left := s.cues.pendings.filter fun p => p.cue != x
  (took = [] → t = s) ∧
  (took ≠ [] → (∀ q ∈ s.claims.order, q.isCue x = false) →
    t = { s with
      cues := { s.cues with pendings := left }
      claims := { s.claims with order := s.claims.order ++ [.cue x took fires] } }) ∧
  ∀ before own waiting after, took ≠ [] → s.claims.order = before ++ .cue x own waiting :: after →
    (∀ q ∈ before ++ after, q.isCue x = false) →
    t = { s with
      cues := { s.cues with pendings := left }
      claims := { s.claims with order := before ++ .cue x (own ++ took) (waiting ++ fires) :: after } }

/-- R33: the cue at which a matched window's action takes effect, none for NOW: its apply point where the action honours it, and cue B
for a HOUSE action of a window at NOW in PERFORMANCE under house_to_cue. -/
def State.DefersTo (w : Window) (s : State) : Option Cue :=
  match w.action with
  | .setLevel | .toggle | .clear | .timed =>
    match w.apply with
    | .cueA => some .a
    | .cueB => some .b
    | .now =>
      if s.cues.mode = .performance ∧ s.mgmt.settings.houseToCue = true ∧ w.layer = .house then some .b else none
  | .scene _ | .sceneOff =>
    match w.apply with
    | .cueA => some .a
    | .cueB => some .b
    | .now => none
  | .momentary | .raise | .lower | .fader | .master _ | .mode _ | .cue _ => none

end Sys2Proof.Machine
end

