-- ==== Sys2Proof/WellFormed.lean ====
section
/-! DEFINITION. Which commands can be sent at all: the operands that the lines and records can carry (R6, R139, R194, Table 12-1).
The machine is defined on the others too (log entry 30). -/

namespace Sys2Proof

/-- A quantity that one byte carries (R194). -/
def oneByte (n : Nat) : Bool := decide (n < 256)

/-- A quantity that two bytes carry (R194). -/
def twoBytes (n : Nat) : Bool := decide (n < 65536)

/-- A station number that sends requests, with a tag (R13, R15, section 11.1). -/
def senderGood (sender tag : Nat) : Bool :=
  decide (1 ≤ sender) && decide (sender ≤ Config.serviceStation) && oneByte tag

/-- The fields of a window entry fit their bytes (Table 12-7). -/
def WindowFields.fits (f : WindowFields) : Bool :=
  oneByte f.enabled && oneByte f.stationFirst && oneByte f.stationLast && oneByte f.controlFirst && oneByte f.controlLast &&
    oneByte f.trigger && oneByte f.action && oneByte f.targetKind && twoBytes f.targetArg && twoBytes f.rowPitch &&
    oneByte f.layer && twoBytes f.level && oneByte f.step && twoBytes f.fade && twoBytes f.hold && oneByte f.apply &&
    oneByte f.feedback && oneByte f.argument && oneByte f.showSafe

/-- The fields of a circuit entry fit their bytes (Table 12-7). -/
def CircuitFields.fits (f : CircuitFields) : Bool :=
  oneByte f.curve && twoBytes f.preheat && twoBytes f.topSet && twoBytes f.switchPoint && oneByte f.masterGroup &&
    twoBytes f.defaultFade && oneByte f.mergeRule && oneByte f.egress && twoBytes f.egressLevel && oneByte f.lossAction &&
    twoBytes f.lossLevel

/-- The fields of a settings entry fit their bytes (Table 12-7). -/
def SettingsFields.fits (f : SettingsFields) : Bool :=
  oneByte f.lineLoss && twoBytes f.modeFade && twoBytes f.recoveryFade && oneByte f.powerOnScene && oneByte f.learn &&
    oneByte f.houseToCue

/-- The argument and position of a READ_ENTRY fit the payload that Table 12-1 gives its kind; what a kind does not carry is 0. No record
spells a kind above 9, whose payload has no length. -/
def entryArgsGood (kind arg position : Nat) : Bool :=
  match kind with
  | 0 | 6 => arg == 0 && position == 0
  | 1 | 2 | 3 | 7 | 9 => oneByte arg && position == 0
  | 4 => oneByte arg && twoBytes position
  | 5 | 8 => twoBytes arg && position == 0
  | _ => false

/-- The longest frame that an ANSWER's length byte can declare (Table 12-3). -/
def longestAnswer : Nat := 261

/-- What ends in an answer window fits: some bytes, no more than an ANSWER can declare, and takes for at most four records, of no more
records than the intake queue holds (Table 12-3, R12, R22). -/
def Arrival.fits (x : Arrival) : Bool :=
  !x.bytes.isEmpty && decide (x.bytes.length ≤ longestAnswer) && decide (x.takes.length ≤ 4) &&
    x.takes.all fun n => decide (n ≤ Config.intakeMax)

/-- Whether a command can be sent. -/
def Instr.wellFormed : Instr → Bool
  | .powerOn | .loadingEnd _ _ _ | .pollSent | .answerWindowTimeout | .lineLossTimerExpiry | .egressAssertion | .egressRelease
  | .cueInputDebounced _ _ | .takeEventRecord | .claimActionGrant | .absenceGrant | .stationRemovalGrant | .claimTimerExpiry
  | .expiryGrant | .setLevelGrant | .releaseLayerGrant | .mergeRuleGrant | .recallGrant | .recallCompletion | .releaseGrant
  | .captureGrant | .cueGrant | .cueCompletion | .modeChangeGrant | .fadeStepTimerExpiry | .levelScheduleTimerExpiry
  | .statusScheduleTimerExpiry | .frameTransmitStart | .frameTransmitEnd | .returnTimeout | .verifyCompletion => true
  | .powerLoss written rest => decide (written ≤ 6) && decide (rest.length ≤ 6 - written)
  | .answerReceived frame => frame.fits
  | .strayStationFrame frame => !frame.isEmpty
  | .loopFrameReceived bits => !bits.isEmpty && decide (bits.length ≤ Config.loopFrameBits)
  | .saveCompletion readBack => decide (readBack.length ≤ 6)
  | .readStatus sender tag | .readUnrouted sender tag | .restart sender tag | .save sender tag => senderGood sender tag
  | .readEntry sender tag kind arg position => senderGood sender tag && entryArgsGood kind arg position
  | .clearFlags sender tag _ | .setMask sender tag _ => senderGood sender tag
  | .writeSettings sender tag fields => senderGood sender tag && fields.fits
  | .verify sender tag sectionCode _ => senderGood sender tag && oneByte sectionCode
  | .enrol sender tag station controls privilege =>
    senderGood sender tag && oneByte station && oneByte controls && oneByte privilege
  | .delete sender tag station => senderGood sender tag && oneByte station
  | .writeWindow sender tag index fields => senderGood sender tag && oneByte index && fields.fits
  | .setWindow sender tag index enable => senderGood sender tag && oneByte index && oneByte enable
  | .addGroupMember sender tag group circuit | .removeGroupMember sender tag group circuit =>
    senderGood sender tag && oneByte group && twoBytes circuit
  | .setLevel sender tag circuit layer level fade =>
    senderGood sender tag && twoBytes circuit && oneByte layer && twoBytes level && twoBytes fade
  | .releaseLayer sender tag layer first last => senderGood sender tag && oneByte layer && twoBytes first && twoBytes last
  | .setSceneEntry sender tag scene circuit level =>
    senderGood sender tag && oneByte scene && twoBytes circuit && twoBytes level
  | .clearSceneEntry sender tag scene circuit => senderGood sender tag && oneByte scene && twoBytes circuit
  | .setSceneFade sender tag scene fade => senderGood sender tag && oneByte scene && twoBytes fade
  | .captureScene sender tag scene => senderGood sender tag && oneByte scene
  | .setMode sender tag mode pin => senderGood sender tag && oneByte mode && oneByte pin
  | .fireCue sender tag cue => senderGood sender tag && oneByte cue
  | .clearPending sender tag selector => senderGood sender tag && oneByte selector
  | .setMaster sender tag master value => senderGood sender tag && oneByte master && twoBytes value
  | .writeCircuit sender tag circuit fields => senderGood sender tag && twoBytes circuit && fields.fits

end Sys2Proof
end

