-- ==== Sys2Proof/Certificates/Slice0/Obligations.lean ====
section
/-! DEFINITION. The statements for the provers: what the commands do, by the rules of spec/, and the laws that every step keeps. -/

open Sys2Proof Sys2Proof.Machine

/-- A step is exec of the front command with the rest of the queue. That an empty queue leaves the state is the model's choice (log
entry 4). -/
def Obligations.StepRunsTheFrontCommand : Prop :=
  ∀ (s : State) (c : Instr) (rest : List Instr),
    (s.pending = c :: rest → step s = exec c { s with pending := rest }) ∧ (s.pending = [] → step s = .next s)

/-- The laws hold right after power-on. -/
def Obligations.ResetMeetsTheLaws : Prop :=
  State.reset.FreshInLoading ∧ State.reset.ClaimLaw ∧ State.reset.HeldLaw ∧ State.reset.MergeLaw ∧ State.reset.EgressLaw ∧
  State.reset.LossLaw ∧ State.reset.AbsenceLaw ∧ State.reset.RosterLaw ∧ State.reset.QueueLaw ∧ State.reset.LoopLaw ∧
  State.reset.RangeLaw

/-- In LOADING the part stays as power-on and RESTART leave it. -/
def Obligations.StepKeepsLoadingFresh : Prop :=
  ∀ s t : State, s.FreshInLoading → step s = .next t → t.FreshInLoading

/-- R50 to R52: the pool and the lists. -/
def Obligations.StepKeepsTheClaimLaw : Prop :=
  ∀ s t : State, s.ClaimLaw → step s = .next t → t.ClaimLaw

/-- R61: the published copy agrees with the held values at all times. -/
def Obligations.StepKeepsHeldTargets : Prop :=
  ∀ s t : State, s.FreshInLoading → s.HeldLaw → step s = .next t → t.HeldLaw

/-- No change to a list, a slot, a merge rule or the mode goes by without the merge that it needs. -/
def Obligations.StepKeepsTheMergeLaw : Prop :=
  ∀ s t : State, s.FreshInLoading → s.MergeLaw → step s = .next t → t.MergeLaw

/-- R127, R162 to R164, R166: the EGRESS slots follow the input and the attributes, and a LOSS slot holds a level only while line loss is
declared. -/
def Obligations.StepKeepsTheSlotLaws : Prop :=
  ∀ s t : State, s.FreshInLoading → step s = .next t → (s.EgressLaw → t.EgressLaw) ∧ (s.LossLaw → t.LossLaw)

/-- R1, R9, R10, R19: the roster, and the law that a station in state ABSENT owns no MOMENTARY claim. -/
def Obligations.StepKeepsTheRosterLaws : Prop :=
  ∀ s t : State, s.FreshInLoading → step s = .next t → (s.RosterLaw → t.RosterLaw) ∧ (s.AbsenceLaw → t.AbsenceLaw)

/-- R22, R83, R95, R96, R101, R155, R197: the queues and lists, and the waiting requests that stand alone. -/
def Obligations.StepKeepsTheQueueLaw : Prop :=
  ∀ s t : State, s.QueueLaw → step s = .next t → t.QueueLaw

/-- R131, R134, R135: the frames of the loop. -/
def Obligations.StepKeepsTheLoopLaw : Prop :=
  ∀ s t : State, s.FreshInLoading → s.LoopLaw → step s = .next t → t.LoopLaw

/-- The ranges that R173 checks at loading, and those of the levels that claims, slots, fades and masters hold. -/
def Obligations.StepKeepsTheRangeLaw : Prop :=
  ∀ s t : State, s.FreshInLoading → s.RangeLaw → step s = .next t → t.RangeLaw

/-- R24: a window's fields other than enabled change only while the window is disabled. -/
def Obligations.EnabledWindowsKeepTheirFields : Prop :=
  ∀ (s t : State) (i : WindowIndex), s.FreshInLoading → step s = .next t → (s.window i).enabled = true →
    (t.window i).enabled = true → t.window i = s.window i

/-- R176: the live tables that a SAVE writes stay as they were from its acceptance to its completion. -/
def Obligations.BusyStoreKeepsTheTables : Prop :=
  ∀ (s t : State) (n : SectionNo), s.FreshInLoading → s.store.state ≠ .idle → step s = .next t → t.part ≠ .loading →
    t.tables.content n = s.tables.content n

/-- R105 to R108: only the grant of a mode-change request changes the mode, and a pinned mode follows SET_MODE alone. -/
def Obligations.ModeChangesOnlyAtItsGrant : Prop :=
  ∀ s t : State, step s = .next t → t.part ≠ .loading → t.cues.mode ≠ s.cues.mode →
    (∃ rest, s.pending = .modeChangeGrant :: rest) ∧
    (s.cues.pin = true → ∃ sender rest, s.claims.order = .modeSet sender t.cues.mode :: rest)

/-- R4, R131, R161 and the rules of the timers: in LOADING nothing is sent, received, watched or granted (log entry 5). -/
def Obligations.LoadingIgnoresEveryEvent : Prop :=
  ∀ (s : State) (c : Instr), s.part = .loading → s.FreshInLoading → c ≠ .powerOn →
    (∀ done rest, c ≠ .powerLoss done rest) → (∀ x y z, c ≠ .loadingEnd x y z) → exec c s = .next s

/-- R173, R196: loading inverts the writing of the image, with each roster entry's live state begun afresh (R1). -/
def Obligations.ImageRoundTrip : Prop :=
  ∀ T : Tables, T.Good →
    loadImage (Vector.ofFn T.written) =
      some { T with roster := T.roster.map fun e => RosterEntry.loaded e.station e.controls e.privilege }

/-- Tables 12-1 and 12-3: requests and event answers as bytes. -/
def Obligations.WireFormsReadAsWritten : Prop :=
  (∀ (c : Instr) (f : RequestForm), c.wellFormed = true → requestForm c = some f →
    askedOf f.sender f.tag f.code f.payload = .command c ∧ f.payload.length ≤ 239 ∧
    (isWrite f.code = false ↔ ((∃ a b, c = .readStatus a b) ∨ (∃ a b k x y, c = .readEntry a b k x y) ∨
      ∃ a b, c = .readUnrouted a b))) ∧
  (∀ (n : Nat) (l : List RawEvent), n < 256 → l.length ≤ 4 →
    (∀ r ∈ l, r.control < 256 ∧ r.kind < 256 ∧ r.value < 65536) →
    answerOf n (answerFrame n 0 (l.flatMap RawEvent.bytes)) = some (.events l) ∧
    (∀ k < (answerFrame n 0 (l.flatMap RawEvent.bytes)).length,
      answerOf n ((answerFrame n 0 (l.flatMap RawEvent.bytes)).take k) = none) ∧
    ∀ m : Nat, m ≠ n → answerOf m (answerFrame n 0 (l.flatMap RawEvent.bytes)) = none)

/-- R13, R15, R182, R183: the taking, the checks and the running of management records; the order before the next visit is log entry 7. -/
def Obligations.AnswersRunTheirRequests : Prop :=
  (∀ (s t : State) (c : Instr) (f : RequestForm) (takes : List Nat), s.line.phase = .awaiting Config.serviceStation →
    s.entryOf Config.serviceStation = none → c.wellFormed = true → requestForm c = some f →
    f.sender = Config.serviceStation → exec c s = .next t →
    exec (.answerReceived
      { bytes := answerFrame Config.serviceStation 1 (checkedRecord f.code f.tag f.payload), takes := takes }) s =
      .next t.nextVisit) ∧
  (∀ (s : State) (sender : Nat) (r : Record), s.part ≠ .loading →
    (s.takes sender = false → s.handRecord sender r = s) ∧
    (s.takes sender = true → r.checked = true → r.crcGood = false →
      State.Answered sender r.tag .checkFailed [] s
        { s with mgmt := { s.mgmt with flags := s.mgmt.flags ||| 0x1000#16 } } (s.handRecord sender r)) ∧
    (s.takes sender = true → (r.checked = true → r.crcGood = true) → 26 < r.code ∨ r.code = 0 →
      State.Answered sender r.tag .unknownRequest [] s s (s.handRecord sender r)) ∧
    (s.takes sender = true → (r.checked = true → r.crcGood = true) → askedOf sender r.tag r.code r.payload = .badLength →
      State.Answered sender r.tag .outOfRange [] s s (s.handRecord sender r)) ∧
    (s.takes sender = true → r.checked = false → isWrite r.code = true →
      (∃ c, askedOf sender r.tag r.code r.payload = .command c) →
      State.Answered sender r.tag .checkRequired [] s s (s.handRecord sender r)))

/-- R171, R178, R181: POWER_ON and POWER_LOSS. That POWER_ON is taken in any state and that POWER_LOSS leaves the values of power-on is
log entry 3; the values of LOADING that the spec does not give are log entries 1, 2, 14 and 15; what a SAVE that was cut off left is an
operand (log entry 16). -/
def Obligations.PowerKeepsTheImage : Prop :=
  (∀ s : State, exec .powerOn s =
    .next
      { State.reset with
        powered := true
        store := { State.reset.store with image := s.store.image, valid := s.store.valid }
        pending := s.pending }) ∧
  (∀ (s : State) (done : Nat) (rest : List ImageSection), s.powered = true →
    ∃ t, exec (.powerLoss done rest) s = .next t ∧ t.powered = false ∧ t.part = .loading ∧ t.pending = s.pending ∧
      t.store.state = .idle ∧ t.store.last = .none ∧
      ((∀ n, s.store.state ≠ .saving n) → t.store.image = s.store.image) ∧
      (∀ current, s.store.state = .saving current →
        (∀ n : SectionNo, n.val < done → t.store.image[n] = .stored (s.tables.content n) (crc16 (s.tables.content n))) ∧
        (∀ n : SectionNo, done ≤ n.val → t.store.image[n] = .erased ∨
          ∃ content crc, t.store.image[n] = .stored content crc ∧ crc16 content ≠ crc) ∧
        (done < 6 → loadImage t.store.image = none) ∧
        (6 ≤ done → t.store.image = Vector.ofFn s.tables.written)))

/-- R173 to R175: the end of loading. R149 and R174 leave open whether the first LEVEL frame is built before the EGRESS sample (log
entry 20). -/
def Obligations.LoadingEndEntersItsState : Prop :=
  (∀ (s : State) (T : Tables) (egress : EgressSample) (cueA cueB : Bool), s.powered = true → s.part = .loading →
    s.FreshInLoading → loadImage s.store.image = some T →
    ∃ t, exec (.loadingEnd egress cueA cueB) s = .next t ∧ t.part = .running ∧ t.tables = T ∧ t.store.valid = true ∧
      t.store.image = s.store.image ∧ t.mgmt.flags = 0 ∧ (t.claims.egressAsserted = true ↔ egress ≠ .released) ∧
      t.cues.cueA = cueA ∧ t.cues.cueB = cueB ∧ t.cues.mode = .work ∧ t.cues.pin = false ∧
      (∀ c : Circuit, (t.circ c).claims = [] ∧ (t.circ c).loss = none ∧
        (t.circ c).egress =
          if egress ≠ .released ∧ (t.eng c).attr.egress = true then some (t.eng c).attr.egressLevel else none) ∧
      (∀ c : Circuit, (t.circ c).egress = none → (t.eng c).level = 0 ∧ (t.eng c).safety = false ∧
        (t.eng c).code = outputCode (Vector.replicate 4 1000) (EngineCircuit.initial (t.eng c).attr)) ∧
      t.claims.order = (match T.settings.powerOnScene with | some n => [.recall n none] | none => []) ∧
      t.line.lossTimer = (if T.roster = [] then none else some T.settings.lineLoss) ∧
      t.loop.levelRotation = 1 ∧ t.loop.statusRotation = 0 ∧ t.loop.failures = 0 ∧ t.loop.openRun = 0 ∧
      t.loop.fault = none ∧ t.loop.status = Vector.replicate 512 .notPresent ∧
      (egress ≠ .asserted true → t.loop.waiting = [{ kind := .level, segment := 0 }] ∧ t.loop.transmitter = none ∧
        t.loop.outstanding = [] ∧ t.loop.nextSeq = 0) ∧
      (egress = .asserted true → ∃ f : LoopFrame, f.kind = .level ∧ f.segment = 0 ∧ f.seq = 0 ∧ f.slots.length = 128 ∧
        (∀ c : Circuit, segmentOf c = 0 →
          f.slots[c.val % 128]? =
            some (BitVec.ofNat 16 (outputCode (Vector.replicate 4 1000) (EngineCircuit.initial (t.eng c).attr)))) ∧
        t.loop.waiting = [] ∧ t.loop.transmitter = some f ∧ t.loop.nextSeq = 1 ∧
        t.loop.outstanding = [{ kind := .level, segment := 0, seq := 0, sent := f.slots, ended := false }]) ∧
      ∃ p, t.line.phase = .sending p ∧ p.reply = none ∧
        p.station = (match T.roster with | e :: _ => e.station | [] => Config.serviceStation)) ∧
  (∀ (s : State) (egress : EgressSample) (cueA cueB : Bool), s.powered = true → s.part = .loading → s.FreshInLoading →
    loadImage s.store.image = none →
    ∃ t, exec (.loadingEnd egress cueA cueB) s = .next t ∧ t.part = .unconfigured ∧ t.tables = Tables.default ∧
      t.store.valid = false ∧ t.store.image = s.store.image ∧ t.mgmt.flags = 0x2000#16 ∧ t.faultOutput = true ∧
      (t.claims.egressAsserted = true ↔ egress ≠ .released) ∧ t.cues.cueA = cueA ∧ t.cues.cueB = cueB ∧
      t.claims.order = [] ∧ (∀ c : Circuit, t.circ c = s.circ c) ∧ t.loop = s.loop ∧ t.line.lossTimer = none ∧
      t.line.phase = .sending { station := Config.serviceStation, codes := [], reply := none })

/-- R5, R6, R14, R191: the end of a POLL, and frames outside the answer window. A command whose event cannot occur is no change (log
entry 5). The restart leaves the values of power-on, and of these the ones that the spec does not give are log entries 2, 14 and 15. -/
def Obligations.PollsOpenTheAnswerWindow : Prop :=
  (∀ (s : State) (p : Poll), s.line.phase = .sending p →
    (p.reply = none → exec .pollSent s = .next { s with line := { s.line with phase := .awaiting p.station } }) ∧
    (p.reply.isSome = true → p.station ∉ s.mgmt.restartSet →
      exec .pollSent s =
        .next
          { s with
            line := { s.line with phase := .awaiting p.station }
            mgmt := { s.mgmt with requests := s.mgmt.requests.filter (·.station != p.station) } }) ∧
    (p.reply.isSome = true → p.station ∈ s.mgmt.restartSet →
      exec .pollSent s =
        .next
          { State.reset with
            powered := s.powered
            store := { State.reset.store with image := s.store.image, valid := s.store.valid }
            pending := s.pending })) ∧
  (∀ (s : State) (frame : List Byte), exec (.strayStationFrame frame) s = .next s ∧
    ((∀ n, s.line.phase ≠ .awaiting n) →
      (∀ takes, exec (.answerReceived { bytes := frame, takes := takes }) s = .next s) ∧
      exec .answerWindowTimeout s = .next s))

/-- R8, R12, R13, R16, R18, R22, R166, R197: what becomes of a valid answer, and which of its event records pass the check of R12. That the head of the queue may be taken between two records of an
answer is the answer's operand (log entry 32); that a record runs before the next visit is chosen is log entry 7. -/
def Obligations.ValidAnswerIsTaken : Prop :=
  (∀ (station controls : Nat) (r : RawEvent),
    (r.checked station controls = none ↔ controls ≤ r.control ∨ (r.kind = 4 ∧ 1000 < r.value) ∨ 4 < r.kind) ∧
    ∀ e, r.checked station controls = some e →
      e.station = station ∧ e.control = r.control ∧ e.kind.code = r.kind ∧ e.value = r.value) ∧
  (∀ s : State,
    let t := s.lineHeard
    t.line.lossDeclared = false ∧ t.mgmt = s.mgmt ∧
    t.line.lossTimer =
      (if s.part = .running ∧ s.line.roster ≠ [] then some s.mgmt.settings.lineLoss else s.line.lossTimer) ∧
    (s.line.lossDeclared = true → LossEnded s t) ∧
    (s.line.lossDeclared = false → ∀ c : Circuit, t.circ c = s.circ c ∧ t.eng c = s.eng c)) ∧
  (∀ (s : State) (n : Nat) (e : RosterEntry) (frame : List Byte) (l : List RawEvent), s.line.phase = .awaiting n →
    s.entryOf n = some e → answerOf n frame = some (.events l) → s.route.intake.length ≤ Config.intakeMax →
    let good := l.filterMap (RawEvent.checked n e.controls)
    let room := Config.intakeMax - s.route.intake.length
    ∃ t, exec (.answerReceived { bytes := frame }) s = .next t ∧
      (∃ x, t.entryOf n = some x ∧ x.live = .present ∧ x.missed = 0 ∧ x.controls = e.controls ∧
        x.privilege = e.privilege) ∧
      t.absenceWaiting n = false ∧ t.route.intake = s.route.intake ++ good.take room ∧
      t.mgmt.flags =
        s.mgmt.flags ||| (if l.all fun r => (r.checked n e.controls).isSome then 0#16 else 0x0100#16) |||
          (if good.length ≤ room then 0#16 else 0x0200#16) ∧
      (∀ r ∈ good.drop room, r.kind = .press → t.shotOf n r.control = some false ∨
        ∃ p, t.line.phase = .sending p ∧ p.station = n ∧ p.codes[r.control]? = some .nack) ∧
      t.line.lossDeclared = false ∧ (s.part = .running → t.line.lossTimer = some s.mgmt.settings.lineLoss) ∧
      (s.line.lossDeclared = true → LossEnded s t) ∧
      (s.line.lossDeclared = false → ∀ c : Circuit, t.circ c = s.circ c ∧ t.eng c = s.eng c) ∧
      ∀ c : Circuit, (t.circ c).claims = (s.circ c).claims ∧ (t.circ c).egress = (s.circ c).egress ∧
        (t.circ c).loss = if s.line.lossDeclared then none else (s.circ c).loss) ∧
  (∀ (s : State) (n : Nat) (e : RosterEntry) (frame : List Byte) (r1 r2 : RawEvent) (e1 e2 : EventRecord),
    s.line.phase = .awaiting n → s.entryOf n = some e → answerOf n frame = some (.events [r1, r2]) →
    r1.checked n e.controls = some e1 → r2.checked n e.controls = some e2 → s.part ≠ .loading →
    s.claims.order.any Request.heldByResolver = false → s.recallInFlight = false → s.route.intake.length = Config.intakeMax →
    (∃ t, exec (.answerReceived { bytes := frame, takes := [1] }) s = .next t ∧
      t.route.intake = s.route.intake.tail ++ [e1] ∧ t.flagSet .intakeOverflow = true) ∧
    ∃ t, exec (.answerReceived { bytes := frame, takes := [0, 1] }) s = .next t ∧
      t.route.intake = s.route.intake.tail ++ [e2] ∧ t.flagSet .intakeOverflow = true) ∧
  (∀ (s t : State) (c : Instr) (f : RequestForm) (e : RosterEntry) (takes : List Nat), s.line.phase = .awaiting f.sender →
    s.entryOf f.sender = some e → c.wellFormed = true → requestForm c = some f →
    let present := s.modifyEntry f.sender fun x => { x with live := .present, missed := 0 }
    exec c (present.withdrawAbsence f.sender).lineHeard = .next t →
    exec (.answerReceived { bytes := answerFrame f.sender 1 (checkedRecord f.code f.tag f.payload), takes := takes }) s =
      .next t.nextVisit) ∧
  ∀ (s : State) (n : Nat) (frame : List Byte) (takes : List Nat) (a : Answer), s.line.phase = .awaiting n →
    s.entryOf n = none → answerOf n frame = some a →
    let u : Unrouted := { station := n, control := 0, kind := .newStation }
    let held := s.mgmt.unrouted
    (n ≠ Config.serviceStation → exec (.answerReceived { bytes := frame, takes := takes }) s =
      exec .answerWindowTimeout
        { s with
          mgmt :=
            { s.mgmt with
              unrouted :=
                if s.mgmt.settings.learn = false ∨ u ∈ held then held
                else if held.length < 16 then held ++ [u]
                else held.tail ++ [u] } }) ∧
    (n = Config.serviceStation → (∃ l, a = .events l) →
      exec (.answerReceived { bytes := frame, takes := takes }) s = exec .answerWindowTimeout s)

/-- R9, Table 1-3: missing and bad answers. -/
def Obligations.MissesAreCounted : Prop :=
  ∀ (s : State) (n : Nat), s.line.phase = .awaiting n →
    (∀ frame takes, answerOf n frame = none →
      exec (.answerReceived { bytes := frame, takes := takes }) s =
        exec .answerWindowTimeout { s with mgmt := { s.mgmt with flags := s.mgmt.flags ||| 0x0100#16 } }) ∧
    ∃ t, exec .answerWindowTimeout s = .next t ∧ t.line.lossTimer = s.line.lossTimer ∧
      t.line.lossDeclared = s.line.lossDeclared ∧ t.mgmt = s.mgmt ∧ t.claims.circuits = s.claims.circuits ∧
      t.route = s.route ∧
      (s.entryOf n = none → t.claims.order = s.claims.order ∧
        ∀ k, (t.entryOf k).map (fun x => (x.live, x.missed)) = (s.entryOf k).map fun x => (x.live, x.missed)) ∧
      (∀ e, s.entryOf n = some e →
        (∀ k ≠ n, (t.entryOf k).map (fun x => (x.live, x.missed)) = (s.entryOf k).map fun x => (x.live, x.missed)) ∧
        (∃ x, t.entryOf n = some x ∧ x.live = e.live ∧
          x.missed = if e.live = .absent ∨ s.absenceWaiting n = true then e.missed else e.missed + 1) ∧
        t.claims.order =
          if e.live = .absent ∨ s.absenceWaiting n = true ∨ e.missed + 1 < 3 then s.claims.order
          else s.claims.order ++ [.absence n])

/-- R2, R3, R5, R7, R14, R16, R151: the choice of the next visit, after a missing answer, and after a received one by the roster and the
settings that its judgement leaves. That the judgement runs a management record of the answer before the choice is the model's choice
(log entry 7). -/
def Obligations.VisitsFollowTheCycle : Prop :=
  (∀ (s : State) (n : Nat), s.line.phase = .awaiting n →
    s.line.roster.Pairwise (fun a b => a.station < b.station) → s.line.roster.length ≤ Config.rosterMax →
    ∃ t, exec .answerWindowTimeout s = .next t ∧ VisitChosen s t) ∧
  (∀ (s : State) (n : Nat) (e : RosterEntry) (frame : List Byte) (l : List RawEvent) (k : Nat), s.line.phase = .awaiting n →
    s.entryOf n = some e → answerOf n frame = some (.events l) → s.line.position = .roster k → n ≤ k →
    s.line.roster.Pairwise (fun a b => a.station < b.station) →
    ∃ t, exec (.answerReceived { bytes := frame }) s = .next t ∧ t.line.cycleCount = s.line.cycleCount ∧
      (∀ x, NextAbove k s.line.cycleCount x s → t.line.position = .roster x.station ∧
        ∃ p, t.line.phase = .sending p ∧ p.station = x.station ∧ p.reply = x.slot ∧ p.codes.length = x.controls) ∧
      (NoneAbove k s.line.cycleCount s → t.line.position = .service ∧
        t.line.phase = .sending { station := Config.serviceStation, codes := [], reply := s.line.serviceSlot })) ∧
  ∀ (s : State) (n : Nat) (frame : Arrival), s.line.phase = .awaiting n →
    let u := s.judgeFrame n frame
    u.line.roster.Pairwise (fun a b => a.station < b.station) → u.line.roster.length ≤ Config.rosterMax →
    ∃ t, exec (.answerReceived frame) s = .next t ∧ VisitChosen u t

/-- R18, R19, R20, R166, R176: ENROL and DELETE. The order of OUT_OF_RANGE and BUSY is open (log entry 9). A reply that has left the slot of a
deleted station for a POLL keeps its station in the restart set (log entry 26). -/
def Obligations.RosterEditsAreStored : Prop :=
  (∀ (s : State) (sender tag station controls privilege : Nat), s.takes sender = true →
    ∃ t, exec (.enrol sender tag station controls privilege) s = .next t ∧
      (∀ p, s.store.state = .idle → 1 ≤ station → station ≤ 249 → privilegeOf privilege = some p →
        (s.enrolled station = true ∨ s.line.roster.length < 120) →
        (∃ x, t.entryOf station = some x ∧ x.controls = max 1 (min 32 controls) ∧ x.privilege = p ∧
          x.live = .unknown ∧ x.missed = 0) ∧
        (s.enrolled station = true → t.absenceWaiting station = false) ∧
        (∀ other, other ≠ station → other ≠ sender → t.entryOf other = s.entryOf other) ∧
        t.line.roster.length = s.line.roster.length + (if s.enrolled station = true then 0 else 1) ∧
        t.replyOf sender =
          some { tag := tag, result := if 1 ≤ controls ∧ controls ≤ 32 then .done else .adjusted, payload := [] } ∧
        t.claims.circuits = s.claims.circuits ∧ t.cues = s.cues ∧
        t.feedback.confirmations = s.feedback.confirmations ∧
        t.line.lossTimer =
          if s.line.roster = [] ∧ s.part = .running ∧ s.line.lossDeclared = false then some s.mgmt.settings.lineLoss
          else s.line.lossTimer) ∧
      (∀ p, s.store.state = .idle → 1 ≤ station → station ≤ 249 → privilegeOf privilege = some p →
        s.enrolled station = false → 120 ≤ s.line.roster.length → State.Answered sender tag .noSpace [] s s t) ∧
      (station = 0 ∨ 249 < station ∨ privilegeOf privilege = none →
        (s.store.state = .idle → State.Answered sender tag .outOfRange [] s s t) ∧
        (State.Answered sender tag .outOfRange [] s s t ∨ State.Answered sender tag .busy [] s s t)) ∧
      (s.store.state ≠ .idle → 1 ≤ station → station ≤ 249 → (privilegeOf privilege).isSome = true →
        State.Answered sender tag .busy [] s s t)) ∧
  (∀ (s : State) (sender tag station : Nat), s.takes sender = true →
    ∃ t, exec (.delete sender tag station) s = .next t ∧
      (station = 0 ∨ 249 < station →
        (s.store.state = .idle → State.Answered sender tag .outOfRange [] s s t) ∧
        (State.Answered sender tag .outOfRange [] s s t ∨ State.Answered sender tag .busy [] s s t)) ∧
      (s.store.state ≠ .idle → 1 ≤ station → station ≤ 249 → State.Answered sender tag .busy [] s s t) ∧
      (s.store.state = .idle → 1 ≤ station → station ≤ 249 → s.entryOf station = none →
        State.Answered sender tag .done [] s s t) ∧
      (∀ e, s.store.state = .idle → 1 ≤ station → station ≤ 249 → s.entryOf station = some e →
        t.entryOf station = none ∧ t.absenceWaiting station = false ∧ t.claims.order.contains (.removal station) = true ∧
        (∀ other, other ≠ station → other ≠ sender → t.entryOf other = s.entryOf other) ∧
        t.cues = { s.cues with pendings := s.cues.pendings.filter (·.station != station) } ∧
        t.feedback =
          { shots := s.feedback.shots.filter (·.station != station)
            confirmations := s.feedback.confirmations.filter (·.station != station) } ∧
        (∀ c : Circuit, (t.circ c).claims = (s.circ c).claims) ∧
        t.mgmt.restartSet =
          (if e.slot.isSome then s.mgmt.restartSet.filter (· != station) else s.mgmt.restartSet) ∧
        (sender ≠ station → t.replyOf sender = some { tag := tag, result := .done, payload := [] } ∧
          (e.slot.isSome = true → t.tagOf station = none)) ∧
        (sender = station → t.tagOf sender = none) ∧
        (t.line.roster = [] → t.line.lossDeclared = false ∧ t.line.lossTimer = none) ∧
        (t.line.roster ≠ [] → t.line.lossDeclared = s.line.lossDeclared ∧ t.line.lossTimer = s.line.lossTimer) ∧
        t.mgmt.flags = s.mgmt.flags ∧
        (t.line.roster = [] → s.line.lossDeclared = true → LossEnded s t) ∧
        (t.line.roster ≠ [] ∨ s.line.lossDeclared = false → ∀ c : Circuit, t.circ c = s.circ c ∧ t.eng c = s.eng c)))

/-- R162 to R164: the safety writes. A contact command that names the state held is no change (log entry 25), and a stopped timer does not
expire (log entry 5). A circuit whose fade record holds the level already keeps its record, as R113 says of every publication (log
entry 33). -/
def Obligations.SafetyWritesSetTheirSlots : Prop :=
  (∀ s : State, s.part ≠ .loading →
    (s.claims.egressAsserted = true → exec .egressAssertion s = .next s) ∧
    (s.claims.egressAsserted = false →
      ∃ t, exec .egressAssertion s = .next t ∧ t.claims.egressAsserted = true ∧
        ∀ c : Circuit,
          ((s.eng c).attr.egress = false → t.circ c = s.circ c ∧ t.eng c = s.eng c) ∧
          ((s.eng c).attr.egress = true →
            let level := max (s.eng c).attr.egressLevel ((s.circ c).loss.getD 0)
            t.circ c =
              { s.circ c with egress := some (s.eng c).attr.egressLevel, target := level, winner := .safety } ∧
            t.eng c =
              if (s.circ c).target = level ∧ (s.circ c).winner = .safety then s.eng c
              else (s.eng c).published s.engine.masters { target := level, winner := .safety, fade := 0 }))) ∧
  (∀ s : State, s.part ≠ .loading → s.claims.egressAsserted = true →
    ∃ t, exec .egressRelease s = .next t ∧ t.claims.egressAsserted = false ∧
      ∀ c : Circuit,
        ((s.circ c).egress = none → t.circ c = s.circ c ∧ t.eng c = s.eng c) ∧
        ((s.circ c).egress.isSome = true →
          let merged := match (s.circ c).loss with
            | some level => (level, WinLayer.safety)
            | none => mergeClaims s.cues.mode (s.eng c).attr.mergeRule (s.circ c).claims
          t.circ c = { s.circ c with egress := none, target := merged.1, winner := merged.2 } ∧
          t.eng c =
            if ((s.circ c).target, (s.circ c).winner) = merged then s.eng c
            else (s.eng c).published s.engine.masters
              { target := merged.1, winner := merged.2, fade := s.mgmt.settings.recoveryFade })) ∧
  (∀ s : State,
    (s.line.lossTimer = none → exec .lineLossTimerExpiry s = .next s) ∧
    (∀ d, s.line.lossTimer = some d →
      ∃ t, exec .lineLossTimerExpiry s = .next t ∧ t.line = { s.line with lossDeclared := true, lossTimer := none } ∧
        t.mgmt = { s.mgmt with flags := s.mgmt.flags ||| 0x0040#16 } ∧
        ∀ c : Circuit,
          ((s.eng c).attr.lossAction = .ignore → t.circ c = s.circ c ∧ t.eng c = s.eng c) ∧
          ((s.eng c).attr.lossAction ≠ .ignore →
            let held := if (s.eng c).attr.lossAction = .hold then (s.circ c).target else (s.eng c).attr.lossLevel
            let level := max held ((s.circ c).egress.getD 0)
            t.circ c = { s.circ c with loss := some held, target := level, winner := .safety } ∧
            t.eng c =
              if (s.circ c).target = level ∧ (s.circ c).winner = .safety then s.eng c
              else (s.eng c).published s.engine.masters { target := level, winner := .safety, fade := 0 })))

/-- R169: a safety write changes slots, held values and publications, and nothing else of these. -/
def Obligations.SafetyEventsLeaveTheClaims : Prop :=
  ∀ (s : State) (c : Instr), c = .egressAssertion ∨ c = .egressRelease ∨ c = .lineLossTimerExpiry →
    ∃ t, exec c s = .next t ∧ (∀ k : Circuit, (t.circ k).claims = (s.circ k).claims ∧ (t.circ k).entry = (s.circ k).entry) ∧
      t.claims.poolFree = s.claims.poolFree ∧ t.claims.order = s.claims.order ∧ t.claims.openSet = s.claims.openSet ∧
      t.cues = s.cues ∧ t.player = s.player ∧ t.engine.masters = s.engine.masters ∧ t.feedback = s.feedback ∧
      t.route = s.route ∧ t.loop = s.loop ∧ t.store = s.store ∧
      (∀ st k, t.steadyCode st k = s.steadyCode st k)

/-- R55: a new claim. -/
def Obligations.PlacementTakesAFreeRecord : Prop :=
  ∀ (s : State) (c : Circuit) (cl : Claim),
    (∀ x ∈ (s.circ c).claims, ¬(x.layer = cl.layer ∧ x.owner = cl.owner)) → (s.circ c).claims.length < 8 →
    1 ≤ s.claims.poolFree →
    s.placeOne c cl =
      { s with
        claims :=
          { s.claims with
            poolFree := s.claims.poolFree - 1
            circuits :=
              s.claims.circuits.set c
                { s.circ c with claims := (s.circ c).claims ++ [cl], entry := some cl.fade } } }

/-- R54, R56, R57: the other outcomes of a placement. -/
def Obligations.PlacementsReplaceEvictOrRefuse : Prop :=
  ∀ (s : State) (c : Circuit) (cl : Claim), (s.circ c).claims.Pairwise (fun a b => a.sameAs b = false) →
    (∀ k ≠ c, (s.placeOne c cl).circ k = s.circ k) ∧
    ((∃ x ∈ (s.circ c).claims, x.layer = cl.layer ∧ x.owner = cl.owner) →
      (s.placeOne c cl).circ c =
        { s.circ c with
          claims := (s.circ c).claims.filter (fun x => !(x.layer == cl.layer && x.owner == cl.owner)) ++ [cl]
          entry := some cl.fade } ∧
      (s.placeOne c cl).claims.poolFree = s.claims.poolFree ∧ (s.placeOne c cl).mgmt = s.mgmt) ∧
    ((∀ x ∈ (s.circ c).claims, ¬(x.layer = cl.layer ∧ x.owner = cl.owner)) → 8 ≤ (s.circ c).claims.length →
      ((∃ before victim after, (s.circ c).claims = before ++ victim :: after ∧ victim.layer.code ≤ cl.layer.code ∧
          (∀ x ∈ before, cl.layer.code < x.layer.code) ∧
          (s.placeOne c cl).circ c = { s.circ c with claims := before ++ after ++ [cl], entry := some cl.fade } ∧
          (s.placeOne c cl).claims.poolFree = s.claims.poolFree ∧ (s.placeOne c cl).mgmt = s.mgmt) ∨
        ((∀ x ∈ (s.circ c).claims, cl.layer.code < x.layer.code) ∧ s.placeOne c cl = s))) ∧
    ((∀ x ∈ (s.circ c).claims, ¬(x.layer = cl.layer ∧ x.owner = cl.owner)) → (s.circ c).claims.length < 8 →
      s.claims.poolFree = 0 →
      s.placeOne c cl = { s with mgmt := { s.mgmt with flags := s.mgmt.flags ||| 0x0400#16 } })

/-- R59, R60, R62: the merge of a circuit. -/
def Obligations.MergePicksTheHighestLayer : Prop :=
  ∀ (mode : Mode) (rule : MergeRule) (t : ClaimCircuit),
    ((t.egress.isSome ∨ t.loss.isSome) →
      mergeCircuit mode rule t = (max (t.egress.getD 0) (t.loss.getD 0), .safety)) ∧
    (t.egress = none → t.loss = none →
      let counts : Claim → Bool := fun cl => !(cl.layer == .work && mode == .performance)
      ((∀ cl ∈ t.claims, counts cl = false) → mergeCircuit mode rule t = (0, .none)) ∧
      ∀ top ∈ t.claims, counts top = true →
        (∀ cl ∈ t.claims, counts cl = true → cl.layer.code ≤ top.layer.code) →
        (mergeCircuit mode rule t).2 = top.layer.winner ∧
        (rule = .latest →
          some (mergeCircuit mode rule t).1 = ((t.claims.filter (·.layer == top.layer)).getLast?.map (·.level))) ∧
        (rule = .highest →
          (∃ cl ∈ t.claims, cl.layer = top.layer ∧ (mergeCircuit mode rule t).1 = cl.level) ∧
          ∀ cl ∈ t.claims, cl.layer = top.layer → cl.level ≤ (mergeCircuit mode rule t).1))

/-- R34 to R37, R39 to R42, R54 to R57, R65: the claims that claim actions place on their target set, circuit by circuit and past a
refusal, and their outcomes; and the actions that change nothing. -/
def Obligations.ClaimActionsPlaceTheirClaims : Prop :=
  (∀ (s : State) (a : ClaimAction) (rest : List Request) (kind : ClaimKind) (level : Circuit → Nat) (fade : Nat),
    s.Grants (.claimAction a) rest → s.enrolled a.station = true →
    let targets := s.targets a.target
    let own : Claim → Bool := fun x => x.layer == a.layer && x.owner == .station a.station a.control
    let owns : Circuit → Bool := fun c => (s.circ c).claims.any own
    let present : Circuit → Nat := fun c => (((s.circ c).claims.find? own).map (·.level)).getD (s.circ c).target
    let lit : Circuit → Bool := fun c => (s.circ c).claims.any fun x => own x && x.window == some a.window
    let shut : Circuit → Prop := fun c =>
      owns c = false ∧ 8 ≤ (s.circ c).claims.length ∧ ∀ x ∈ (s.circ c).claims, a.layer.code < x.layer.code
    targets ≠ [] → targets.Nodup → (∀ c ∈ targets, (s.circ c).claims.Pairwise (fun x y => x.sameAs y = false)) →
    (∀ c ∈ targets, owns c = true ∨ (s.circ c).claims.length < 8 ∨ shut c) →
    (targets.filter fun c => !owns c).length ≤ s.claims.poolFree →
    ((∃ v, a.work = .setLevel v fade ∧ (∀ c, level c = v) ∧ kind = .latched) ∨
      (∃ v, a.work = .toggle v fade ∧ (∀ c ∈ targets, lit c = false) ∧ (∀ c, level c = v) ∧ kind = .latched) ∨
      (∃ v, a.work = .press v fade ∧ s.absent a.station = false ∧ (∀ c, level c = v) ∧ kind = .momentary) ∨
      (∃ v hold, a.work = .timed v fade hold ∧ (∀ c, level c = v) ∧ kind = .timed hold) ∨
      (∃ step, a.work = .raise step fade ∧ (∀ c, level c = min 1000 (present c + step)) ∧ kind = .latched) ∨
      (∃ step, a.work = .lower step fade ∧ (∀ c, level c = present c - step) ∧ kind = .latched) ∨
      (∃ v top, a.work = .fader v top fade ∧ 0 < v ∧ (∀ c, level c = (v * top + 500) / 1000) ∧ kind = .latched)) →
    ∃ t, exec .claimActionGrant s = .next t ∧ t.claims.order = rest ∧ t.claims.openSet = none ∧ t.mgmt = s.mgmt ∧
      t.cues = s.cues ∧
      (∀ c ∈ targets, shut c → t.circ c = s.circ c ∧ t.eng c = s.eng c) ∧
      (∀ c ∈ targets, ¬shut c →
        CircuitClosed s t c
          ((s.circ c).claims.filter (fun x => !own x) ++
            [{ layer := a.layer, owner := .station a.station a.control, window := some a.window, kind := kind,
               level := level c, fade := fade }])
          (some fade)) ∧
      (∀ c, c ∉ targets → t.circ c = s.circ c ∧ t.eng c = s.eng c) ∧
      ((∃ c ∈ targets, shut c) → s.hears a.station a.control = true → t.shotOf a.station a.control = some false) ∧
      ((∀ c ∈ targets, ¬shut c) →
        (a.feedback = .posted → s.hears a.station a.control = true → t.shotOf a.station a.control = some true) ∧
        (a.feedback = .confirmed → ∀ published : List Circuit,
          (∀ c, c ∈ published ↔ ((t.circ c).target, (t.circ c).winner) ≠ ((s.circ c).target, (s.circ c).winner)) →
          t.feedback = (s.confirm a.station a.control published).feedback))) ∧
  (∀ (s : State) (a : ClaimAction) (rest : List Request), s.Grants (.claimAction a) rest →
    ∃ t, exec .claimActionGrant s = .next t ∧
      (s.enrolled a.station = false → t = { s with claims := { s.claims with order := rest } }) ∧
      (s.enrolled a.station = true →
        s.targets a.target = [] ∨ (s.absent a.station = true ∧ ∃ level fade, a.work = .press level fade) →
        t.claims = { s.claims with order := rest } ∧ t.engine = s.engine ∧ t.mgmt = s.mgmt ∧ t.cues = s.cues ∧
        (s.hears a.station a.control = true → t.shotOf a.station a.control = some false)) ∧
      (∀ v fade, s.enrolled a.station = true → s.targets a.target ≠ [] → a.work = .setLevel v fade →
        s.claims.poolFree = 0 →
        (∀ c ∈ s.targets a.target, (s.circ c).claims.length < 8 ∧
          ∀ x ∈ (s.circ c).claims, ¬(x.layer = a.layer ∧ x.owner = .station a.station a.control)) →
        t.claims = { s.claims with order := rest } ∧ t.engine = s.engine ∧ t.cues = s.cues ∧
        t.mgmt = { s.mgmt with flags := s.mgmt.flags ||| 0x0400#16 } ∧
        (s.hears a.station a.control = true → t.shotOf a.station a.control = some false)))

/-- R37, R38, R39, R42: the claims that each claim action removes. -/
def Obligations.ClaimActionsRemoveTheirClaims : Prop :=
  ∀ (s : State) (a : ClaimAction) (rest : List Request) (gone : Claim → Bool),
    s.Grants (.claimAction a) rest → s.enrolled a.station = true → s.targets a.target ≠ [] →
    let own : Claim → Bool := fun x => x.layer == a.layer && x.owner == .station a.station a.control
    ((a.work = .clear ∧ gone = fun x => x.layer == a.layer) ∨
      (∃ level fade, a.work = .toggle level fade ∧ (gone = fun x => own x && x.window == some a.window) ∧
        (s.targets a.target).any (fun c => (s.circ c).claims.any gone) = true) ∨
      (a.work = .release ∧ gone = fun x => own x && x.kind == .momentary) ∨
      (∃ level fade, a.work = .fader 0 level fade ∧ gone = own)) →
    ∃ t, exec .claimActionGrant s = .next t ∧ t.claims.order = rest ∧ t.mgmt = s.mgmt ∧ t.cues = s.cues ∧
      RemovedAndClosed s t (fun c cl => (s.targets a.target).contains c && gone cl) ∧
      (a.feedback = .posted → s.hears a.station a.control = true → t.shotOf a.station a.control = some true)

/-- R10, R20, R72: the grants that remove claims. -/
def Obligations.RemovalGrantsRemoveTheirClaims : Prop :=
  (∀ (s : State) (n : Nat) (e : RosterEntry) (rest : List Request), s.Grants (.absence n) rest → s.entryOf n = some e →
    ∃ t, exec .absenceGrant s = .next t ∧ t.entryOf n = some { e with live := .absent } ∧
      (∀ k ≠ n, t.entryOf k = s.entryOf k) ∧ t.claims.order = rest ∧
      RemovedAndClosed s t (fun _ cl => cl.ofStation n && cl.kind == .momentary) ∧
      t.feedback =
        { s.feedback with confirmations := s.feedback.confirmations.filter (·.station != n) } ∧
      t.mgmt = { s.mgmt with flags := s.mgmt.flags ||| 0x0080#16 } ∧ t.cues = s.cues ∧ t.player = s.player) ∧
  (∀ (s : State) (rest : List Request),
    (∀ n, s.Grants (.removal n) rest →
      ∃ t, exec .stationRemovalGrant s = .next t ∧ t.claims.order = rest ∧
        RemovedAndClosed s t (fun _ cl => cl.ofStation n) ∧ t.line = s.line ∧ t.cues = s.cues ∧
        t.feedback = s.feedback ∧ t.mgmt = s.mgmt ∧ t.player = s.player) ∧
    (s.Grants .expiry rest →
      ∃ t, exec .expiryGrant s = .next t ∧ t.claims.order = rest ∧
        RemovedAndClosed s t (fun _ cl => cl.kind == .timed 0) ∧ t.line = s.line ∧ t.cues = s.cues ∧
        t.feedback = s.feedback ∧ t.mgmt = s.mgmt ∧ t.player = s.player))

/-- R71, R72: one expiry of the claim timer. -/
def Obligations.ClaimTimerCountsDown : Prop :=
  ∀ s : State, s.part ≠ .loading →
    ∃ t, exec .claimTimerExpiry s = .next t ∧
      (∀ c : Circuit, t.circ c =
        { s.circ c with
          claims := (s.circ c).claims.map fun cl =>
            match cl.kind with
            | .timed left => { cl with kind := .timed (left - 1) }
            | _ => cl }) ∧
      t.claims.order =
        (if (∃ c : Circuit, ∃ cl ∈ (s.circ c).claims, cl.kind = .timed 1) ∧ Request.expiry ∉ s.claims.order then
          s.claims.order ++ [.expiry]
        else s.claims.order) ∧
      t = { s with claims := { s.claims with circuits := t.claims.circuits, order := t.claims.order } }

/-- R73, R74: SET_LEVEL and RELEASE_LAYER with their grants. -/
def Obligations.ManagementLevelsWaitAtTheArbiter : Prop :=
  ((∀ (s : State) (sender tag circuit layer level fade : Nat), s.takes sender = true →
    ∃ t, exec (.setLevel sender tag circuit layer level fade) s = .next t ∧
      (∀ c l, circuitOf circuit = some c → layerOf layer = some l →
        State.Waiting sender tag s
          { s with
            claims :=
              { s.claims with
                order := s.claims.order ++
                  [.setLevel sender c l (min level 1000) (min fade 6000) (decide (1000 < level ∨ 6000 < fade))] } } t) ∧
      (circuitOf circuit = none ∨ layerOf layer = none → State.Answered sender tag .outOfRange [] s s t)) ∧
  ∀ (s : State) (sender tag : Nat) (c : Circuit) (l : Layer) (level fade : Nat) (adjusted : Bool) (rest : List Request),
    s.Grants (.setLevel sender c l level fade adjusted) rest → s.Awaits sender tag →
    (s.circ c).claims.Pairwise (fun x y => x.sameAs y = false) →
    ∃ t, exec .setLevelGrant s = .next t ∧ t.claims.order = rest ∧
      (∀ k ≠ c, t.circ k = s.circ k ∧ t.eng k = s.eng k) ∧
      (s.cues.mode = .performance → t.circ c = s.circ c ∧ t.eng c = s.eng c ∧
        t.replyOf sender = some { tag := tag, result := .notPermitted, payload := [] }) ∧
      (s.cues.mode = .work →
        let own : Claim → Bool := fun x => x.layer == l && x.owner == .management
        ((s.circ c).claims.any own = true ∨ ((s.circ c).claims.length < 8 ∧ 1 ≤ s.claims.poolFree) →
          CircuitClosed s t c
            ((s.circ c).claims.filter (fun x => !own x) ++
              [{ layer := l, owner := .management, window := none, kind := .latched, level := level, fade := fade }])
            (some fade) ∧
          t.mgmt.flags = s.mgmt.flags ∧
          t.replyOf sender =
            some { tag := tag, result := if adjusted then .adjusted else .done, payload := [] }) ∧
        ((s.circ c).claims.any own = false → (s.circ c).claims.length < 8 → s.claims.poolFree = 0 →
          t.circ c = s.circ c ∧ t.eng c = s.eng c ∧ t.mgmt.flags = s.mgmt.flags ||| 0x0400#16 ∧
          t.replyOf sender = some { tag := tag, result := .noSpace, payload := [] }))) ∧
  ((∀ (s : State) (sender tag layer first last : Nat), s.takes sender = true →
    ∃ t, exec (.releaseLayer sender tag layer first last) s = .next t ∧
      (∀ l a b, layerOf layer = some l → circuitOf first = some a → circuitOf last = some b → a ≤ b →
        State.Waiting sender tag s
          { s with claims := { s.claims with order := s.claims.order ++ [.releaseLayer sender l a b] } } t) ∧
      (layerOf layer = none ∨ circuitOf first = none ∨ circuitOf last = none ∨ last < first →
        State.Answered sender tag .outOfRange [] s s t)) ∧
  ∀ (s : State) (sender tag : Nat) (l : Layer) (a b : Circuit) (rest : List Request),
    s.Grants (.releaseLayer sender l a b) rest → s.Awaits sender tag →
    ∃ t, exec .releaseLayerGrant s = .next t ∧ t.claims.order = rest ∧
      RemovedAndClosed s t (fun c cl => decide (a ≤ c ∧ c ≤ b) && cl.layer == l) ∧
      t.player = s.player ∧ t.cues = s.cues ∧ t.feedback = s.feedback ∧
      t.replyOf sender =
        some { tag := tag, result := .done,
               payload := be16 (s.removedCount fun c cl => decide (a ≤ c ∧ c ≤ b) && cl.layer == l) })

/-- R75, R126, R127: WRITE_CIRCUIT and the grant of its merge-rule request. -/
def Obligations.CircuitWritesActAtOnce : Prop :=
  (∀ f : CircuitFields,
    (attrOf f = none ↔
      2 < f.curve ∨ (3 < f.masterGroup ∧ f.masterGroup ≠ 255) ∨ 1 < f.mergeRule ∨ 1 < f.egress ∨ 2 < f.lossAction) ∧
    (clampCircuit f = f ↔
      f.preheat ≤ 200 ∧ f.preheat ≤ f.topSet ∧ f.topSet ≤ 1000 ∧ 1 ≤ f.switchPoint ∧ f.switchPoint ≤ 1000 ∧
        f.defaultFade ≤ 6000 ∧ f.egressLevel ≤ 1000 ∧ f.lossLevel ≤ 1000) ∧
    ∀ a, attrOf f = some a →
      a.topSet = min f.topSet 1000 ∧ a.preheat = min (min f.preheat 200) (min f.topSet 1000) ∧
      a.switchPoint = max 1 (min 1000 f.switchPoint) ∧ a.egressLevel = min f.egressLevel 1000 ∧
      a.lossLevel = min f.lossLevel 1000 ∧ a.defaultFade = min f.defaultFade 6000 ∧ a.curve.code = f.curve ∧
      masterGroupCode a.masterGroup = f.masterGroup ∧ a.mergeRule.code = f.mergeRule ∧ (a.egress = true ↔ f.egress = 1) ∧
      a.lossAction.code = f.lossAction) ∧
  ((∀ (s : State) (sender tag circuit : Nat) (f : CircuitFields), s.takes sender = true →
    ∃ t, exec (.writeCircuit sender tag circuit f) s = .next t ∧
      (circuitOf circuit = none → State.Answered sender tag .outOfRange [] s s t) ∧
      (∀ c, circuitOf circuit = some c → s.store.state ≠ .idle ∨ s.recallInFlight = true →
        State.Answered sender tag .busy [] s s t) ∧
      (∀ c, circuitOf circuit = some c → s.store.state = .idle → s.recallInFlight = false → attrOf f = none →
        State.Answered sender tag .outOfRange [] s s t) ∧
      (∀ c a, circuitOf circuit = some c → s.store.state = .idle → s.recallInFlight = false → attrOf f = some a →
        s.claims.egressAsserted = false →
        let stored : EngineCircuit := { s.eng c with attr := a }
        let u : State :=
          { s with
            engine :=
              { s.engine with
                circuits := s.engine.circuits.set c { stored with code := outputCode s.engine.masters stored } } }
        (a.mergeRule = (s.eng c).attr.mergeRule →
          State.Answered sender tag (if clampCircuit f = f then .done else .adjusted) [] s u t) ∧
        (a.mergeRule ≠ (s.eng c).attr.mergeRule →
          State.Waiting sender tag s
            { u with
              claims :=
                { u.claims with
                  order := u.claims.order ++ [.mergeRule sender c (decide (clampCircuit f ≠ f))] } } t))) ∧
  ∀ (s : State) (sender tag : Nat) (c : Circuit) (adjusted : Bool) (rest : List Request),
    s.Grants (.mergeRule sender c adjusted) rest → s.Awaits sender tag →
    ∃ t, exec .mergeRuleGrant s = .next t ∧ t.claims.order = rest ∧ t.claims.poolFree = s.claims.poolFree ∧
      CircuitClosed s t c (s.circ c).claims (some (s.eng c).attr.defaultFade) ∧
      (∀ k ≠ c, t.circ k = s.circ k ∧ t.eng k = s.eng k) ∧
      t.replyOf sender = some { tag := tag, result := if adjusted then .adjusted else .done, payload := [] }) ∧
  (∀ (s : State) (sender tag circuit : Nat) (f : CircuitFields) (c : Circuit) (a : Attr), s.takes sender = true →
    circuitOf circuit = some c → s.store.state = .idle → s.recallInFlight = false → attrOf f = some a →
    s.claims.egressAsserted = true →
    ∃ t, exec (.writeCircuit sender tag circuit f) s = .next t ∧ (t.eng c).attr = a ∧
      (t.circ c).egress =
        (if a.egress then some a.egressLevel else if (s.eng c).attr.egress then none else (s.circ c).egress) ∧
      (t.circ c).loss = (s.circ c).loss ∧ (t.circ c).claims = (s.circ c).claims ∧
      ∀ k ≠ c, t.circ k = s.circ k ∧ t.eng k = s.eng k)

/-- R113 to R115: publications and fade steps. -/
def Obligations.FadesRunToTheirTargets : Prop :=
  (∀ (masters : Vector Nat 4) (e : EngineCircuit) (p : Publication),
    let x := e.published masters p
    x.attr = e.attr ∧ x.target = p.target ∧ x.safety = (p.winner == .safety) ∧
    x.code = outputCode masters { x with code := e.code } ∧
    (p.target = e.fadeTarget → x.fadeActive = e.fadeActive ∧ x.fadeStart = e.fadeStart ∧
      x.fadeTarget = e.fadeTarget ∧ x.fadeSteps = e.fadeSteps ∧ x.fadeTaken = e.fadeTaken ∧ x.level = e.level) ∧
    (p.target ≠ e.fadeTarget → x.fadeStart = e.level ∧ x.fadeTarget = p.target ∧ x.fadeSteps = 5 * p.fade ∧
      x.fadeTaken = 0 ∧ (p.fade = 0 → x.fadeActive = false ∧ x.level = p.target) ∧
      (p.fade ≠ 0 → x.fadeActive = true ∧ x.level = e.level))) ∧
  (∀ s : State, s.part ≠ .loading →
    ∃ t, exec .fadeStepTimerExpiry s = .next t ∧
      t = { s with engine := { s.engine with circuits := t.engine.circuits } } ∧
      ∀ c : Circuit,
        ((s.eng c).fadeActive = false → t.eng c = s.eng c) ∧
        ((s.eng c).fadeActive = true →
          let e := s.eng c
          let k := e.fadeTaken + 1
          let x := t.eng c
          x.attr = e.attr ∧ x.target = e.target ∧ x.safety = e.safety ∧ x.fadeStart = e.fadeStart ∧
          x.fadeTarget = e.fadeTarget ∧ x.fadeSteps = e.fadeSteps ∧ x.fadeTaken = k ∧
          (e.fadeSteps ≤ k → x.level = e.fadeTarget ∧ x.fadeActive = false) ∧
          (k < e.fadeSteps → x.fadeActive = true ∧
            min e.fadeStart e.fadeTarget ≤ x.level ∧ x.level ≤ max e.fadeStart e.fadeTarget ∧
            (x.level : Int) =
              (e.fadeStart : Int) +
                Int.sign ((e.fadeTarget : Int) - e.fadeStart) *
                  ((2 * ((((e.fadeTarget : Int) - e.fadeStart) * k).natAbs : Int) + e.fadeSteps) / (2 * e.fadeSteps))) ∧
          x.code = if x.level = e.level then e.code else outputCode s.engine.masters x))

/-- R118, R119: SET_MASTER. -/
def Obligations.SetMasterRecomputesItsCircuits : Prop :=
  ∀ (s : State) (sender tag master value : Nat), s.takes sender = true →
    ∃ t, exec (.setMaster sender tag master value) s = .next t ∧
      (4 ≤ master → State.Answered sender tag .outOfRange [] s s t) ∧
      (∀ m : Master, master = m.val →
        State.Answered sender tag (if value ≤ 1000 then .done else .adjusted) [] s { s with engine := t.engine } t ∧
        t.engine.masters[m] = min value 1000 ∧ (∀ k : Master, k ≠ m → t.engine.masters[k] = s.engine.masters[k]) ∧
        ∀ c : Circuit,
          t.eng c =
            if (s.eng c).attr.masterGroup = some m ∧ (s.eng c).safety = false then
              { s.eng c with code := outputCode t.engine.masters (s.eng c) }
            else s.eng c)

/-- R120, R122: the level U and the output code. With them the scaling before U (R117), U under the safety flag (R121), and the output
code as the curve of U. -/
def Obligations.OutputCodesFollowTrimsAndCurves : Prop :=
  ((∀ (a : Attr) (scaled : Nat),
    let u := trimmedLevel a false scaled
    (a.curve ≠ .switched → u = max (min scaled a.topSet) (min a.preheat a.topSet) ∧
      (a.preheat ≤ a.topSet → min a.preheat a.topSet = a.preheat ∧ (scaled = 0 → u = a.preheat))) ∧
    (a.curve = .switched → u = min scaled a.topSet) ∧ (a.topSet = 0 → u = 0)) ∧
  (∀ f a, attrOf f = some a → a.preheat ≤ a.topSet) ∧
  ∀ (masters : Vector Nat 4) (e : EngineCircuit), e.safety = false →
    (e.level = 0 → scaledLevel masters e = 0) ∧
    (∀ m : Master, e.attr.masterGroup = some m → masters[m] = 0 → scaledLevel masters e = 0)) ∧
  (∀ (a : Attr) (u : Nat), u ≤ 1000 →
    (a.curve = .linear → curveCode a u = (u * 65535 + 500) / 1000 ∧ (u = 0 → curveCode a u = 0) ∧
      (u = 1000 → curveCode a u = 65535) ∧ (∀ v ≤ u, curveCode a v ≤ curveCode a u) ∧
      10 * (u * 65535 + 500) ≤ 655355 * 1000) ∧
    (a.curve = .square → curveCode a u = (u * u * 65535 + 500000) / 1000000 ∧ (u = 0 → curveCode a u = 0) ∧
      (u = 1000 → curveCode a u = 65535) ∧ (∀ v ≤ u, curveCode a v ≤ curveCode a u) ∧
      10 * (u * u * 65535 + 500000) ≤ 655355 * 1000000) ∧
    (a.curve = .switched → (a.switchPoint ≤ u → curveCode a u = 65535) ∧ (u < a.switchPoint → curveCode a u = 0) ∧
      ∀ x, curveCode { a with preheat := x } u = curveCode a u) ∧
    curveCode a u ≤ 65535) ∧
  ∀ (masters : Vector Nat 4) (e : EngineCircuit),
    let scaled := scaledLevel masters e
    (e.safety = true ∨ e.attr.masterGroup = none → scaled = e.level) ∧
    (∀ m : Master, e.safety = false → e.attr.masterGroup = some m →
      scaled = (e.level * masters[m] + 500) / 1000 ∧ 1000 * scaled ≤ e.level * masters[m] + 500 ∧
        e.level * masters[m] < 1000 * scaled + 500) ∧
    (e.safety = false → outputCode masters e = curveCode e.attr (trimmedLevel e.attr false scaled)) ∧
    (e.safety = true → e.attr.curve ≠ .switched → outputCode masters e = curveCode e.attr (max e.level e.attr.preheat)) ∧
    (e.safety = true → e.attr.curve = .switched → outputCode masters e = curveCode e.attr e.level)

/-- R23, R26, R34: the taking of a record. -/
def Obligations.TakenRecordsChangeNoClaim : Prop :=
  ∀ s : State,
    (s.part = .loading ∨ s.claims.order.any Request.heldByResolver = true ∨ s.recallInFlight = true ∨ s.route.intake = [] →
      exec .takeEventRecord s = .next s) ∧
    (∀ r rest, s.part ≠ .loading → s.claims.order.any Request.heldByResolver = false → s.recallInFlight = false →
      s.route.intake = r :: rest →
      ∃ t, exec .takeEventRecord s = .next t ∧ t.route = { s.route with intake := rest } ∧
        t.claims.circuits = s.claims.circuits ∧ t.claims.poolFree = s.claims.poolFree ∧
        t.claims.openSet = s.claims.openSet ∧ t.claims.egressAsserted = s.claims.egressAsserted ∧
        t.player = s.player ∧ t.cues.mode = s.cues.mode ∧ t.cues.pin = s.cues.pin ∧ t.line = s.line ∧ t.loop = s.loop ∧
        t.store = s.store ∧ t.mgmt.settings = s.mgmt.settings ∧ t.mgmt.requests = s.mgmt.requests ∧
        (t.claims.order.length = s.claims.order.length ∨ t.claims.order.length = s.claims.order.length + 1) ∧
        ∀ c : Circuit, (t.eng c).attr = (s.eng c).attr ∧ (t.eng c).target = (s.eng c).target ∧
          (t.eng c).level = (s.eng c).level ∧ (t.eng c).fadeTarget = (s.eng c).fadeTarget)

/-- R23, R25 to R34, R43 to R45, R83, R96, R100, R101, R106, R197: what becomes of a taken record: without an entry, unmatched, refused,
and for each action of the window that matches it. -/
def Obligations.EventRecordsAreResolved : Prop :=
  (∀ (s : State) (r : EventRecord) (rest : List EventRecord), s.TakesHead r rest →
    ∃ t, exec .takeEventRecord s = .next t ∧
      let taken : State := { s with route := { s.route with intake := rest } }
      let held := s.mgmt.unrouted
      let u : Unrouted := { station := r.station, control := r.control, kind := .event r.kind }
      (s.entryOf r.station = none → t = taken) ∧
      (∀ e, s.entryOf r.station = some e → (∀ i : WindowIndex, (s.window i).matchesRecord r = false) →
        let offered : State :=
          if s.mgmt.settings.learn = false ∨ u ∈ held then taken
          else { taken with
            mgmt := { s.mgmt with unrouted := if held.length < 16 then held ++ [u] else held.tail ++ [u] } }
        t = if r.kind = .press then offered.outcome r.station r.control false else offered) ∧
      (∀ e i, s.Matched r e i → s.Refuses (s.window i) r e → t = taken.outcome r.station r.control false)) ∧
  (∀ (s : State) (r : EventRecord) (rest : List EventRecord) (e : RosterEntry) (i : WindowIndex), s.TakesHead r rest →
    s.Matched r e i → ¬s.Refuses (s.window i) r e →
    ∃ t, exec .takeEventRecord s = .next t ∧
      let w := s.window i
      let taken : State := { s with route := { s.route with intake := rest } }
      let number (base : Circuit) : Nat :=
        circuitNumber base + (r.station - w.stationFirst) * w.rowPitch + (r.control - w.controlFirst)
      let deferred (x : Cue) (work : PendingWork) : Pending :=
        { station := r.station, control := r.control, window := i, cue := x, work := work, feedback := w.feedback }
      let asker : Asker := { station := r.station, control := r.control, feedback := w.feedback }
      (∀ work target, w.WorkIs r work →
        (∃ base c, w.target = .offset base ∧ circuitNumber c = number base ∧ target = .circuit c) ∨
          (∃ g, w.target = .group g ∧ target = .group g) →
        (s.DefersTo w = none →
          t = { taken with
            claims :=
              { s.claims with
                order := s.claims.order ++
                  [.claimAction
                    { station := r.station, control := r.control, window := i, layer := w.layer, work := work,
                      target := target, feedback := w.feedback }] } }) ∧
        (∀ x, s.DefersTo w = some x → PendingOffered (deferred x (.claim w.layer work target)) taken t)) ∧
      (w.action.isClaim → w.target = .none ∨ (∃ base, w.target = .offset base ∧ 512 < number base) →
        t = taken.outcome r.station r.control false) ∧
      (∀ m, w.action = .master m →
        t.engine.masters = s.engine.masters.set m r.value ∧ t.claims = s.claims ∧
        (∀ c : Circuit, t.eng c =
          if (s.eng c).attr.masterGroup = some m ∧ (s.eng c).safety = false then
            { s.eng c with code := outputCode t.engine.masters (s.eng c) }
          else s.eng c) ∧
        (s.hears r.station r.control = true → t.shotOf r.station r.control = some true)) ∧
      (∀ n, w.action = .scene n →
        (s.DefersTo w = none → SceneHanded (.recall n (some asker)) taken t) ∧
        (∀ x, s.DefersTo w = some x → PendingOffered (deferred x (.scene n)) taken t)) ∧
      (w.action = .sceneOff →
        (s.DefersTo w = none → SceneHanded (.release asker) taken t) ∧
        (∀ x, s.DefersTo w = some x → PendingOffered (deferred x .sceneOff) taken t)) ∧
      (∀ op, w.action = .mode op →
        (s.cues.pin = true → t = taken.outcome r.station r.control false) ∧
        (s.cues.pin = false →
          t = { taken with
            claims := { s.claims with order := s.claims.order ++ [.modeAction op r.station r.control] } })) ∧
      (∀ x, w.action = .cue x → ∃ u, CueTaken x [] taken u ∧ t = u.outcome r.station r.control true))

/-- R84 to R88: a recall from its grant to its completion. -/
def Obligations.RecallsRunInTheirSet : Prop :=
  ((∀ (s : State) (n : SceneNo) (asker : Option Asker) (rest : List Request), s.Grants (.recall n asker) rest →
    let scene := s.player.scenes[n]
    scene.entries.Pairwise (fun a b => a.circuit < b.circuit) → scene.entries.length ≤ s.claims.poolFree →
    (∀ c : Circuit, (s.circ c).claims.Pairwise (fun a b => a.sameAs b = false)) →
    ∃ t, exec .recallGrant s = .next t ∧ t.claims.order = rest ∧ t.engine = s.engine ∧ t.player = s.player ∧
      t.feedback = s.feedback ∧ t.mgmt = s.mgmt ∧
      t.claims.openSet = some (.recall { scene := n, content := scene, asker := asker, refused := false }) ∧
      (∀ c : Circuit, (t.circ c).target = (s.circ c).target ∧ (t.circ c).winner = (s.circ c).winner) ∧
      (∀ c : Circuit, (∀ e ∈ scene.entries, e.circuit ≠ c) →
        (t.circ c).claims = (s.circ c).claims.filter fun cl => !(cl.layer == .scene)) ∧
      ∀ e ∈ scene.entries, (s.circ e.circuit).claims.length < 8 →
        (t.circ e.circuit).claims =
          (s.circ e.circuit).claims.filter (fun cl => !(cl.layer == .scene && cl.owner == .scenePlayer)) ++
            [{ layer := .scene, owner := .scenePlayer, window := none, kind := .latched, level := e.level,
               fade := scene.fade }] ∧
        (t.circ e.circuit).entry = some scene.fade) ∧
  ∀ (s : State) (w : RecallWork), s.claims.openSet = some (.recall w) →
    ∃ t, exec .recallCompletion s = .next t ∧ t.player = { s.player with active := some w.scene } ∧
      t.claims.openSet = none ∧ t.claims.order = s.claims.order ∧
      (∀ c : Circuit, CircuitClosed s t c (s.circ c).claims (s.circ c).entry) ∧
      (∀ a, w.asker = some a → s.hears a.station a.control = true →
        (w.refused = true → t.shotOf a.station a.control = some false) ∧
        (w.refused = false → a.feedback = .posted → t.shotOf a.station a.control = some true))) ∧
  (∀ (s : State) (n : SceneNo) (asker : Option Asker) (rest : List Request) (e : SceneEntry) (more : List SceneEntry),
    s.Grants (.recall n asker) rest → s.player.scenes[n].entries = e :: more → s.claims.poolFree = 0 →
    (∀ c : Circuit, ∀ cl ∈ (s.circ c).claims, cl.layer ≠ .scene) → (s.circ e.circuit).claims.length < 8 →
    ∃ t, exec .recallGrant s = .next t ∧ (∀ c : Circuit, t.circ c = s.circ c) ∧ t.claims.poolFree = 0 ∧
      t.mgmt = { s.mgmt with flags := s.mgmt.flags ||| 0x0400#16 } ∧ t.claims.order = rest ∧
      t.claims.openSet =
        some (.recall { scene := n, content := s.player.scenes[n], asker := asker, refused := true }))

/-- R91: a release. -/
def Obligations.ReleasesClearTheSceneLayer : Prop :=
  ∀ (s : State) (a : Asker) (rest : List Request), s.Grants (.release a) rest →
    ∃ t, exec .releaseGrant s = .next t ∧ t.claims.order = rest ∧
      RemovedAndClosed s t (fun _ cl => cl.layer == .scene) ∧ t.player = { s.player with active := none } ∧
      t.mgmt = s.mgmt ∧ t.cues = s.cues ∧
      (a.feedback = .posted → s.hears a.station a.control = true → t.shotOf a.station a.control = some true)

/-- R78, R92, R93: CAPTURE_SCENE and its grant. -/
def Obligations.CapturesReadTheClaims : Prop :=
  (∀ (s : State) (sender tag scene : Nat), s.takes sender = true →
    ∃ t, exec (.captureScene sender tag scene) s = .next t ∧
      (sceneOf scene = none → State.Answered sender tag .outOfRange [] s s t) ∧
      (∀ n, sceneOf scene = some n → s.store.state ≠ .idle ∨ s.recallInFlight = true →
        State.Answered sender tag .busy [] s s t) ∧
      (∀ n, sceneOf scene = some n → s.store.state = .idle → s.recallInFlight = false →
        State.Waiting sender tag s
          { s with claims := { s.claims with order := s.claims.order ++ [.capture sender n] } } t)) ∧
  ∀ (s : State) (sender tag : Nat) (n : SceneNo) (rest : List Request), s.Grants (.capture sender n) rest →
    s.Awaits sender tag →
    let named : Prop := ∃ p : Pending, p.work = .scene n ∧
      (p ∈ s.cues.pendings ∨ ∃ x records fires, Request.cue x records fires ∈ s.claims.order ∧ p ∈ records)
    ∃ t, exec .captureGrant s = .next t ∧ t.claims = { s.claims with order := rest } ∧ t.engine = s.engine ∧
      t.player.active = s.player.active ∧ t.player.scenes[n].fade = s.player.scenes[n].fade ∧
      (∀ k : SceneNo, k ≠ n → t.player.scenes[k] = s.player.scenes[k]) ∧
      (s.store.state ≠ .idle → t.player = s.player ∧
        t.replyOf sender = some { tag := tag, result := .busy, payload := [] }) ∧
      (s.store.state = .idle → named → t.player = s.player ∧
        t.replyOf sender = some { tag := tag, result := .refusedPending, payload := [] }) ∧
      (s.store.state = .idle → ¬named →
        let want : Circuit → Nat := fun c =>
          (mergeCircuit s.cues.mode (s.eng c).attr.mergeRule { s.circ c with egress := none, loss := none }).1
        let needed := (allCircuits.filter fun c => decide (0 < want c)).length
        (needed + s.scenePlacesUsed ≤ 8192 + s.player.scenes[n].entries.length → s.scenePlacesUsed ≤ 8192 →
          (t.player.scenes[n].entries.Pairwise fun a b => a.circuit < b.circuit) ∧
          (∀ c : Circuit, ∀ level : Nat,
            ({ circuit := c, level := level } : SceneEntry) ∈ t.player.scenes[n].entries ↔
              0 < want c ∧ level = want c) ∧
          t.replyOf sender = some { tag := tag, result := .done, payload := be16 needed }) ∧
        (8192 - s.scenePlacesUsed + s.player.scenes[n].entries.length < needed →
          t.player = s.player ∧ t.replyOf sender = some { tag := tag, result := .noSpace, payload := [] }))

/-- R78 to R81: the scene edits. -/
def Obligations.SceneEditsAreStored : Prop :=
  ∀ (s : State) (sender tag scene : Nat), s.takes sender = true →
    let answers (c : Instr) (result : Result) : Prop :=
      ∃ t, exec c s = .next t ∧ State.Answered sender tag result [] s s t
    (sceneOf scene = none →
      (∀ circuit level, answers (.setSceneEntry sender tag scene circuit level) .outOfRange) ∧
      (∀ circuit, answers (.clearSceneEntry sender tag scene circuit) .outOfRange) ∧
      (∀ fade, answers (.setSceneFade sender tag scene fade) .outOfRange)) ∧
    (∀ circuit, circuitOf circuit = none →
      (∀ level, answers (.setSceneEntry sender tag scene circuit level) .outOfRange) ∧
      answers (.clearSceneEntry sender tag scene circuit) .outOfRange) ∧
    ∀ n : SceneNo, sceneOf scene = some n →
      (∀ refusal, (s.store.state ≠ .idle ∨ s.recallInFlight = true) ∧ refusal = .busy ∨
          (s.store.state = .idle ∧ s.recallInFlight = false ∧
            (∃ p ∈ s.cues.pendings ++ s.takenRecords, p.work = .scene n) ∧ refusal = .refusedPending) →
        (∀ circuit c level, circuitOf circuit = some c → answers (.setSceneEntry sender tag scene circuit level) refusal) ∧
        (∀ circuit c, circuitOf circuit = some c → answers (.clearSceneEntry sender tag scene circuit) refusal) ∧
        ∀ fade, answers (.setSceneFade sender tag scene fade) refusal) ∧
      (s.store.state = .idle → s.recallInFlight = false →
        (∀ p ∈ s.cues.pendings ++ s.takenRecords, p.work ≠ .scene n) →
        let r := s.player.scenes[n]
        let with_ (x : SceneRecord) : State := { s with player := { s.player with scenes := s.player.scenes.set n x } }
        (∀ fade, ∃ t, exec (.setSceneFade sender tag scene fade) s = .next t ∧
          State.Answered sender tag (if fade ≤ 6000 then .done else .adjusted) [] s
            (with_ { r with fade := min fade 6000 }) t) ∧
        (∀ circuit c, circuitOf circuit = some c →
          ∃ t, exec (.clearSceneEntry sender tag scene circuit) s = .next t ∧
            State.Answered sender tag .done [] s
              (with_ { r with entries := r.entries.filter fun e => e.circuit ≠ c }) t) ∧
        (∀ circuit level c, circuitOf circuit = some c → (∀ e ∈ r.entries, e.circuit ≠ c) → 8192 ≤ s.scenePlacesUsed →
          answers (.setSceneEntry sender tag scene circuit level) .noSpace) ∧
        (∀ circuit level c, circuitOf circuit = some c → r.entries.Pairwise (fun a b => a.circuit < b.circuit) →
          ((∃ e ∈ r.entries, e.circuit = c) ∨ s.scenePlacesUsed < 8192) →
          ∃ t x, exec (.setSceneEntry sender tag scene circuit level) s = .next t ∧
            State.Answered sender tag (if level ≤ 1000 then .done else .adjusted) [] s (with_ x) t ∧ x.fade = r.fade ∧
            (x.entries.Pairwise fun a b => a.circuit < b.circuit) ∧
            ∀ e : SceneEntry, e ∈ x.entries ↔
              (e.circuit ≠ c ∧ e ∈ r.entries) ∨ (e.circuit = c ∧ e.level = min level 1000)))

/-- R99 to R101: cue events. A contact command that names the state held is no change (log entry 25). -/
def Obligations.CueEventsTakeTheirRecords : Prop :=
  ∀ (s : State) (x : Cue), s.part ≠ .loading →
    let took := s.cues.pendings.filter fun p => p.cue == x
    let left := s.cues.pendings.filter fun p => p.cue != x
    (s.cueContact x = false → ∃ t, exec (.cueInputDebounced x true) s = .next t ∧ t.cueContact x = true ∧
      t.cues.pendings = left ∧ t.cues.mode = s.cues.mode ∧ t.claims.circuits = s.claims.circuits ∧ t.mgmt = s.mgmt ∧
      (took = [] → t.claims = s.claims) ∧
      (took ≠ [] → (∀ q ∈ s.claims.order, q.isCue x = false) →
        t.claims.order = s.claims.order ++ [.cue x took []]) ∧
      (∀ before own fires after, took ≠ [] → s.claims.order = before ++ .cue x own fires :: after →
        (∀ q ∈ before ++ after, q.isCue x = false) →
        t.claims.order = before ++ .cue x (own ++ took) fires :: after)) ∧
    (s.cueContact x = true → ∃ t, exec (.cueInputDebounced x false) s = .next t ∧ t.cueContact x = false ∧
      t.claims = s.claims ∧ t.mgmt = s.mgmt ∧ t.cues.pendings = s.cues.pendings) ∧
    (exec (.cueInputDebounced x (s.cueContact x)) s = .next s) ∧
    ∀ sender tag : Nat, s.takes sender = true →
      (∃ t, exec (.fireCue sender tag (cueCode x)) s = .next t ∧
        (took = [] → State.Answered sender tag .done [0, 0] s s t) ∧
        (took ≠ [] → (∀ q ∈ s.claims.order, q.isCue x = false) →
          State.Waiting sender tag s
            { s with
              cues := { s.cues with pendings := left }
              claims :=
                { s.claims with
                  order := s.claims.order ++ [.cue x took [{ station := sender, count := took.length }]] } } t) ∧
        (∀ before own fires after, took ≠ [] → s.claims.order = before ++ .cue x own fires :: after →
          (∀ q ∈ before ++ after, q.isCue x = false) →
          State.Waiting sender tag s
            { s with
              cues := { s.cues with pendings := left }
              claims :=
                { s.claims with
                  order := before ++
                    .cue x (own ++ took) (fires ++ [{ station := sender, count := took.length }]) :: after } } t)) ∧
      ∀ code, 2 ≤ code → ∃ t, exec (.fireCue sender tag code) s = .next t ∧
        State.Answered sender tag .outOfRange [] s s t

/-- R90, R102, R103: a cue from its grant to its completion: one record after another, each by its work, and then the outcomes and the
replies. The circuits of a SCENE record's confirmation are log entry 19. -/
def Obligations.CuesApplyAndComplete : Prop :=
  (∀ (s : State) (x : Cue) (p : Pending) (more : List Pending) (fires : List Fire) (rest : List Request),
    s.part ≠ .loading → s.claims.openSet = none → s.claims.order = .cue x (p :: more) fires :: rest →
    let withOrder (u : State) (records : List Pending) : State :=
      { u with claims := { u.claims with openSet := none, order := .cue x records fires :: rest } }
    let opened (records : List Applied) : Option OpenWork := some (.cue { cue := x, records := records, fires := fires })
    ∃ (u t : State) (first : Applied) (others : List Applied),
      exec .cueGrant (withOrder s [p]) = .next u ∧ u.claims.openSet = opened [first] ∧ first.record = p ∧
      exec .cueGrant (withOrder u more) = .next t ∧ t.claims.openSet = opened others ∧ others.map (·.record) = more ∧
      exec .cueGrant s = .next { t with claims := { t.claims with openSet := opened (first :: others) } }) ∧
  (∀ (s : State) (x : Cue) (p : Pending) (fires : List Fire) (rest : List Request), s.part ≠ .loading →
    s.claims.openSet = none → s.claims.order = .cue x [p] fires :: rest →
    let opened (r : AppliedResult) : Option OpenWork :=
      some (.cue { cue := x, records := [{ record := p, result := r }], fires := fires })
    let inScene : Claim → Bool := fun cl => cl.layer == .scene
    ∃ t, exec .cueGrant s = .next t ∧ t.claims.order = rest ∧ t.engine = s.engine ∧ t.feedback = s.feedback ∧
      t.cues = s.cues ∧
      (∀ c : Circuit, (t.circ c).target = (s.circ c).target ∧ (t.circ c).winner = (s.circ c).winner) ∧
      (s.enrolled p.station = false → (∀ c : Circuit, t.circ c = s.circ c) ∧ t.player = s.player ∧ t.mgmt = s.mgmt ∧
        t.claims.openSet = opened .skipped) ∧
      (∀ layer work target, s.enrolled p.station = true → p.work = .claim layer work target →
        let targets := s.targets target
        let own : Claim → Bool := fun y => y.layer == layer && y.owner == .station p.station p.control
        let owns : Circuit → Bool := fun c => (s.circ c).claims.any own
        let lit : Claim → Bool := fun y => own y && y.window == some p.window
        t.player = s.player ∧
        (targets = [] → (∀ c : Circuit, t.circ c = s.circ c) ∧ t.mgmt = s.mgmt ∧
          t.claims.openSet = opened (.applied true [])) ∧
        (∀ level fade kind, targets ≠ [] → targets.Nodup →
          (∀ c ∈ targets, (s.circ c).claims.Pairwise (fun y z => y.sameAs z = false)) →
          (∀ c ∈ targets, owns c = true ∨ (s.circ c).claims.length < 8) →
          (targets.filter fun c => !owns c).length ≤ s.claims.poolFree →
          (work = .setLevel level fade ∧ kind = .latched) ∨
            (work = .toggle level fade ∧ (∀ c ∈ targets, (s.circ c).claims.any lit = false) ∧ kind = .latched) ∨
            (∃ hold, work = .timed level fade hold ∧ kind = .timed hold) →
          (∀ c ∈ targets, t.circ c =
            { s.circ c with
              claims := (s.circ c).claims.filter (fun y => !own y) ++
                [{ layer := layer, owner := .station p.station p.control, window := some p.window, kind := kind,
                   level := level, fade := fade }]
              entry := some fade }) ∧
          (∀ c, c ∉ targets → t.circ c = s.circ c) ∧ t.mgmt = s.mgmt ∧
          t.claims.openSet = opened (.applied false targets)) ∧
        (∀ gone : Claim → Bool, targets ≠ [] →
          (work = .clear ∧ gone = fun y => y.layer == layer) ∨
            (∃ level fade, work = .toggle level fade ∧ gone = lit ∧
              targets.any (fun c => (s.circ c).claims.any gone) = true) →
          RemovedInSet s t (fun c cl => targets.contains c && gone cl) ∧ t.mgmt = s.mgmt ∧
          ∃ touched, t.claims.openSet = opened (.applied false touched) ∧
            ∀ c, c ∈ touched ↔ c ∈ targets ∧ (s.circ c).claims.any gone = true)) ∧
      (∀ n, s.enrolled p.station = true → p.work = .scene n →
        let scene := s.player.scenes[n]
        scene.entries.Pairwise (fun a b => a.circuit < b.circuit) → scene.entries.length ≤ s.claims.poolFree →
        (∀ c : Circuit, (s.circ c).claims.Pairwise (fun a b => a.sameAs b = false)) →
        t.player = { s.player with active := some n } ∧ t.mgmt = s.mgmt ∧
        (∀ c : Circuit, (∀ e ∈ scene.entries, e.circuit ≠ c) →
          (t.circ c).claims = (s.circ c).claims.filter fun cl => !inScene cl) ∧
        (∀ e ∈ scene.entries, (s.circ e.circuit).claims.length < 8 →
          (t.circ e.circuit).claims =
            (s.circ e.circuit).claims.filter (fun cl => !(inScene cl && cl.owner == .scenePlayer)) ++
              [{ layer := .scene, owner := .scenePlayer, window := none, kind := .latched, level := e.level,
                 fade := scene.fade }] ∧
          (t.circ e.circuit).entry = some scene.fade) ∧
        ∃ touched, t.claims.openSet = opened (.applied false touched) ∧
          ∀ c, c ∈ touched ↔ (∃ e ∈ scene.entries, e.circuit = c) ∨ (s.circ c).claims.any inScene = true) ∧
      (s.enrolled p.station = true → p.work = .sceneOff →
        RemovedInSet s t (fun _ cl => inScene cl) ∧ t.player = { s.player with active := none } ∧ t.mgmt = s.mgmt ∧
        ∃ touched, t.claims.openSet = opened (.applied false touched) ∧
          ∀ c, c ∈ touched ↔ (s.circ c).claims.any inScene = true)) ∧
  (∀ (s : State) (w : CueWork), s.claims.openSet = some (.cue w) →
    ∃ t, exec .cueCompletion s = .next t ∧ t.claims.openSet = none ∧ t.claims.order = s.claims.order ∧
      t.player = s.player ∧ t.cues = s.cues ∧
      (∀ c : Circuit, CircuitClosed s t c (s.circ c).claims (s.circ c).entry) ∧
      ((∀ a ∈ w.records, a.result = .skipped) → t.feedback = s.feedback) ∧
      (∀ before a after refused touched, w.records = before ++ a :: after → a.result = .applied refused touched →
        (∀ b ∈ after, ¬(b.record.station = a.record.station ∧ b.record.control = a.record.control)) →
        s.hears a.record.station a.record.control = true →
        (refused = true → t.shotOf a.record.station a.record.control = some false) ∧
        (refused = false → a.record.feedback = .posted →
          t.shotOf a.record.station a.record.control = some true)) ∧
      (∀ a touched (published : List Circuit), w.records = [a] → a.result = .applied false touched →
        a.record.feedback = .confirmed →
        (∀ c, c ∈ published ↔
          c ∈ touched ∧ ((t.circ c).target, (t.circ c).winner) ≠ ((s.circ c).target, (s.circ c).winner)) →
        t.feedback = (s.confirm a.record.station a.record.control published).feedback) ∧
      (∀ f tag, f ∈ w.fires → (∀ g ∈ w.fires, g.station = f.station → g = f) → s.Awaits f.station tag →
        t.replyOf f.station = some { tag := tag, result := .done, payload := be16 f.count }))

/-- R98: CLEAR_PENDING. -/
def Obligations.PendingRecordsAreCleared : Prop :=
  ∀ (s : State) (sender tag selector : Nat), s.takes sender = true →
    ∃ t, exec (.clearPending sender tag selector) s = .next t ∧
      (3 ≤ selector → State.Answered sender tag .outOfRange [] s s t) ∧
      (selector < 3 →
        let named : Pending → Bool := fun p => selector == 2 || cueCode p.cue == selector
        State.Answered sender tag .done (be16 (s.cues.pendings.filter named).length) s
          { s with
            cues := { s.cues with pendings := s.cues.pendings.filter fun p => !named p }
            feedback := t.feedback } t ∧
        t.feedback.confirmations = s.feedback.confirmations ∧
        ∀ p ∈ s.cues.pendings, named p = true → s.hears p.station p.control = true →
          t.shotOf p.station p.control = some false)

/-- R106 to R108: mode changes. -/
def Obligations.ModeChangesAreGranted : Prop :=
  (∀ (s : State) (sender tag mode pin : Nat), s.takes sender = true →
    ∃ t, exec (.setMode sender tag mode pin) s = .next t ∧
      (2 ≤ mode ∨ 2 ≤ pin → State.Answered sender tag .outOfRange [] s s t) ∧
      (∀ m : Mode, mode = m.code → pin < 2 →
        State.Waiting sender tag s
          { s with
            cues := { s.cues with pin := pin == 1 }
            claims := { s.claims with order := s.claims.order ++ [.modeSet sender m] } } t)) ∧
  (∀ (s : State) (sender tag : Nat) (m : Mode) (rest : List Request), s.Grants (.modeSet sender m) rest →
    s.Awaits sender tag →
    ∃ t, exec .modeChangeGrant s = .next t ∧ t.claims.order = rest ∧ t.cues = { s.cues with mode := m } ∧
      t.replyOf sender = some { tag := tag, result := .done, payload := [] } ∧
      ∀ c : Circuit, CircuitClosed s t c (s.circ c).claims
        (if m ≠ s.cues.mode ∧ (s.circ c).claims.any (fun cl => cl.layer == .work) = true then
          some s.mgmt.settings.modeFade
        else none)) ∧
  ∀ (s : State) (op : ModeOp) (station control : Nat) (rest : List Request),
    s.Grants (.modeAction op station control) rest →
    ∃ t, exec .modeChangeGrant s = .next t ∧ t.claims.order = rest ∧
      (s.cues.pin = true → t.cues = s.cues ∧ t.claims = { s.claims with order := rest } ∧ t.engine = s.engine ∧
        (s.hears station control = true → t.shotOf station control = some false)) ∧
      (s.cues.pin = false →
        t.cues.mode =
          (match op with
            | .enter => Mode.performance
            | .leave => Mode.work
            | .toggle => if s.cues.mode = .work then Mode.performance else Mode.work) ∧
        (∀ c : Circuit, CircuitClosed s t c (s.circ c).claims
          (if t.cues.mode ≠ s.cues.mode ∧ (s.circ c).claims.any (fun cl => cl.layer == .work) = true then
            some s.mgmt.settings.modeFade
          else none)) ∧
        (s.hears station control = true → t.shotOf station control = some true))

/-- R132 to R137: the schedule and the sending of a frame. -/
def Obligations.LoopFramesFallDueAndAreSent : Prop :=
  (∀ s : State, s.part ≠ .running →
    exec .levelScheduleTimerExpiry s = .next s ∧ exec .statusScheduleTimerExpiry s = .next s ∧
    exec .frameTransmitStart s = .next s) ∧
  ∀ s : State, s.part = .running →
    exec .levelScheduleTimerExpiry s =
      .next
        { s with
          loop :=
            { s.loop with
              waiting :=
                if ({ kind := .level, segment := s.loop.levelRotation } : DueFrame) ∈ s.loop.waiting then s.loop.waiting
                else s.loop.waiting ++ [{ kind := .level, segment := s.loop.levelRotation }]
              levelRotation := s.loop.levelRotation + 1 } } ∧
    ((∃ d ∈ s.loop.waiting, d.kind = .status) → exec .statusScheduleTimerExpiry s = .next s) ∧
    ((∀ d ∈ s.loop.waiting, d.kind ≠ .status) →
      exec .statusScheduleTimerExpiry s =
        .next
          { s with
            loop :=
              { s.loop with
                waiting := s.loop.waiting ++ [{ kind := .status, segment := s.loop.statusRotation }]
                statusRotation := s.loop.statusRotation + 1 } }) ∧
    (s.loop.waiting = [] ∨ s.loop.transmitter ≠ none ∨ 2 ≤ s.loop.outstanding.length →
      exec .frameTransmitStart s = .next s) ∧
    (∀ d rest, s.loop.waiting = d :: rest → s.loop.transmitter = none → s.loop.outstanding.length < 2 →
      ∃ f : LoopFrame, f.kind = d.kind ∧ f.segment = d.segment ∧ f.seq = s.loop.nextSeq ∧ f.slots.length = 128 ∧
        (∀ c : Circuit, segmentOf c = d.segment →
          f.slots[c.val % 128]? = some (if d.kind = .level then BitVec.ofNat 16 (s.eng c).code else 0)) ∧
        exec .frameTransmitStart s =
          .next
            { s with
              loop :=
                { s.loop with
                  waiting := rest
                  transmitter := some f
                  nextSeq := s.loop.nextSeq + 1
                  outstanding :=
                    s.loop.outstanding ++
                      [{ kind := d.kind, segment := d.segment, seq := s.loop.nextSeq,
                         sent := if d.kind = .level then f.slots else [], ended := false }] } }) ∧
    ∀ f : LoopFrame, s.loop.transmitter = some f →
      exec .frameTransmitEnd s =
        .next
          { s with
            loop :=
              { s.loop with
                transmitter := none
                outstanding := s.loop.outstanding.map fun o => if o.seq = f.seq then { o with ended := true } else o } }

/-- R138 to R141, R144, R145, R147: the outcomes of LEVEL frames. A timeout without an outstanding frame is no change (log entry 5). -/
def Obligations.LoopReturnsAreJudged : Prop :=
  (∀ s : State, s.loop.outstanding = [] →
    exec .returnTimeout s = .next s ∧ ∀ bits, exec (.loopFrameReceived bits) s = .next s) ∧
  ∀ (s : State) (o : Outstanding) (rest : List Outstanding), s.part = .running → s.loop.outstanding = o :: rest →
    o.kind = .level → o.sent.length = 128 →
    let sent : List Bool := LoopFrame.bits { kind := .level, segment := o.segment, seq := o.seq, slots := o.sent }
    let failed : FeedbackBlock := (s.levelReport o.segment false).feedback
    (o.ended = false → exec .returnTimeout s = .next s) ∧
    (o.ended = true → ∃ t, exec .returnTimeout s = .next t ∧
      LoopFailure s t .opened o.segment none (min 3 (s.loop.openRun + 1)) rest
        (if 3 ≤ s.loop.openRun + 1 then 0x0001#16 else 0) failed) ∧
    (exec (.loopFrameReceived sent) s =
      .next
        { s with
          loop := { s.loop with outstanding := rest, failures := 0, openRun := 0 }
          feedback := (s.levelReport o.segment true).feedback }) ∧
    (∀ bits : List Bool, bits.take 24 ≠ sent.take 24 → ∃ t, exec (.loopFrameReceived bits) s = .next t ∧
      LoopFailure s t .corrupt o.segment none 0 rest 0x0002#16 failed) ∧
    (∀ k : Nat, 24 ≤ k → k < 2216 → ∃ t, exec (.loopFrameReceived (sent.take k)) s = .next t ∧
      LoopFailure s t .corrupt o.segment none 0 rest 0x0002#16 failed) ∧
    (∀ bits : List Bool, bits.take 2200 = sent.take 2200 → bits.take 2216 ≠ sent →
      ∃ t, exec (.loopFrameReceived bits) s = .next t ∧
        LoopFailure s t .corrupt o.segment none 0 rest 0x0002#16 failed) ∧
    ∀ (bits : List Bool) (c : Circuit), segmentOf c = o.segment →
      let place : Nat := 24 + 17 * (c.val % 128)
      bits.take place = sent.take place → place + 17 ≤ bits.length →
      (((bits.drop place).take 17).count true % 2 = 0 → ∃ t, exec (.loopFrameReceived bits) s = .next t ∧
        LoopFailure s t .parity o.segment (some c) 0 rest 0x0004#16 failed) ∧
      (((bits.drop place).take 17).count true % 2 = 1 → (bits.drop place).take 17 ≠ (sent.drop place).take 17 →
        ∃ t, exec (.loopFrameReceived bits) s = .next t ∧
          LoopFailure s t .corrupt o.segment (some c) 0 rest 0x0002#16 failed)

/-- R138, R140, R142, R144 to R147: the outcomes of STATUS frames. The timeout of a frame still being sent is no change (log entry 5). -/
def Obligations.StatusReturnsAreWritten : Prop :=
  ∀ (s : State) (o : Outstanding) (rest : List Outstanding) (values : List Word), s.part = .running →
    s.loop.outstanding = o :: rest → o.kind = .status → values.length = 128 →
    let bits : List Bool := LoopFrame.bits { kind := .status, segment := o.segment, seq := o.seq, slots := values }
    ((∀ v ∈ values, v.toNat ≤ 5) →
      ∃ t, exec (.loopFrameReceived bits) s = .next t ∧
        (∀ c : Circuit, segmentOf c ≠ o.segment → t.loop.status[c] = s.loop.status[c]) ∧
        (∀ c : Circuit, segmentOf c = o.segment →
          (values[c.val % 128]?).map BitVec.toNat = some (t.loop.status[c]).code) ∧
        (∀ f : Flag, t.flagSet f = true ↔
          s.flagSet f = true ∨
          (f = .lampFault ∧ ∃ c : Circuit, segmentOf c = o.segment ∧ t.loop.status[c] = .noLoad) ∨
          (f = .rackFault ∧ ∃ c : Circuit, segmentOf c = o.segment ∧
            (t.loop.status[c] = .overtemp ∨ t.loop.status[c] = .breakerOpen ∨ t.loop.status[c] = .dimmerFault)) ∨
          (f = .egressFault ∧ ∃ c : Circuit, segmentOf c = o.segment ∧ (s.eng c).attr.egress = true ∧
            t.loop.status[c] ≠ .ok)) ∧
        t = { s with
          loop := { s.loop with outstanding := rest, failures := 0, openRun := 0, status := t.loop.status }
          mgmt := { s.mgmt with flags := t.mgmt.flags } }) ∧
    (o.ended = false → exec .returnTimeout s = .next s) ∧
    (o.ended = true → ∃ t, exec .returnTimeout s = .next t ∧
      LoopFailure s t .opened o.segment none (min 3 (s.loop.openRun + 1)) rest
        (if 3 ≤ s.loop.openRun + 1 then 0x0001#16 else 0) s.feedback) ∧
    (∀ received : List Bool, received.take 24 ≠ bits.take 24 → ∃ t, exec (.loopFrameReceived received) s = .next t ∧
      LoopFailure s t .corrupt o.segment none 0 rest 0x0002#16 s.feedback) ∧
    ((∀ v ∈ values, v.toNat ≤ 5) →
      (∀ k : Nat, 24 ≤ k → k < 2216 → ∃ t, exec (.loopFrameReceived (bits.take k)) s = .next t ∧
        LoopFailure s t .corrupt o.segment none 0 rest 0x0002#16 s.feedback) ∧
      ∀ received : List Bool, received.take 2200 = bits.take 2200 → received.take 2216 ≠ bits →
        ∃ t, exec (.loopFrameReceived received) s = .next t ∧
          LoopFailure s t .corrupt o.segment none 0 rest 0x0002#16 s.feedback) ∧
    ∀ c : Circuit, segmentOf c = o.segment → (∀ v ∈ values.take (c.val % 128), v.toNat ≤ 5) →
      let place : Nat := 24 + 17 * (c.val % 128)
      ((∀ v ∈ values[c.val % 128]?, 5 < v.toNat) →
        ∃ t, exec (.loopFrameReceived bits) s = .next t ∧
          LoopFailure s t .corrupt o.segment (some c) 0 rest 0x0002#16 s.feedback) ∧
      ∀ received : List Bool, received.take place = bits.take place → place + 17 ≤ received.length →
        (((received.drop place).take 17).count true % 2 = 0 → ∃ t, exec (.loopFrameReceived received) s = .next t ∧
          LoopFailure s t .parity o.segment (some c) 0 rest 0x0004#16 s.feedback) ∧
        (∀ v : Word, 5 < v.toNat → (received.drop place).take 17 = slotBits v →
          ∃ t, exec (.loopFrameReceived received) s = .next t ∧
            LoopFailure s t .corrupt o.segment (some c) 0 rest 0x0002#16 s.feedback)

/-- R147, R154 to R157: confirmation records. -/
def Obligations.ConfirmationsWaitForTheirFrames : Prop :=
  (∀ (s : State) (station control : Nat) (circuits : List Circuit), s.hears station control = true →
    let own : Confirmation → Bool := fun r => r.station == station && r.control == control
    let held := s.feedback.confirmations
    (circuits = [] → s.confirm station control circuits = s.outcome station control true) ∧
    (circuits ≠ [] → s.part = .unconfigured → s.confirm station control circuits = s.outcome station control false) ∧
    (circuits ≠ [] → s.part = .running → 16 ≤ held.length → held.any own = false →
      s.confirm station control circuits = s.outcome station control true) ∧
    (circuits ≠ [] → s.part = .running → held.length < 16 ∨ held.any own = true →
      ∃ r : Confirmation,
        s.confirm station control circuits =
          { s with feedback := { s.feedback with confirmations := held.filter (fun q => !own q) ++ [r] } } ∧
        r.station = station ∧ r.control = control ∧
        (∀ g : Segment, (∃ w ∈ r.segments, w.segment = g) ↔ ∃ c ∈ circuits, segmentOf c = g) ∧
        (r.segments.map (·.segment)).Nodup ∧
        ∀ w ∈ r.segments, w.state = .waiting ∧ w.failures = 0 ∧
          w.pass = s.loop.outstanding.countP fun o => o.kind == .level && o.segment == w.segment)) ∧
  (∀ (s : State) (g : Segment) (intact : Bool) (r : Confirmation) (w : SegmentWait),
    s.feedback.confirmations.Pairwise (fun a b => ¬(a.station = b.station ∧ a.control = b.control)) →
    r ∈ s.feedback.confirmations → r.segments = [w] → w.state = .waiting →
    let t := s.levelReport g intact
    (w.segment ≠ g → r ∈ t.feedback.confirmations) ∧
    (w.segment = g → 0 < w.pass → { r with segments := [{ w with pass := w.pass - 1 }] } ∈ t.feedback.confirmations) ∧
    (w.segment = g → w.pass = 0 → intact = true →
      (∀ q ∈ t.feedback.confirmations, ¬(q.station = r.station ∧ q.control = r.control)) ∧
      (s.hears r.station r.control = true → t.shotOf r.station r.control = some true)) ∧
    (w.segment = g → w.pass = 0 → intact = false → w.failures < 2 →
      { r with segments := [{ w with failures := w.failures + 1 }] } ∈ t.feedback.confirmations) ∧
    (w.segment = g → w.pass = 0 → intact = false → 2 ≤ w.failures →
      (∀ q ∈ t.feedback.confirmations, ¬(q.station = r.station ∧ q.control = r.control)) ∧
      (s.hears r.station r.control = true → t.shotOf r.station r.control = some false))) ∧
  ∀ (s : State) (g : Segment) (intact : Bool),
    s.feedback.confirmations.Pairwise (fun a b => ¬(a.station = b.station ∧ a.control = b.control)) →
    let after (w : SegmentWait) : SegmentWait :=
      if w.segment ≠ g ∨ w.state ≠ .waiting then w
      else if 0 < w.pass then { w with pass := w.pass - 1 }
      else if intact then { w with state := .satisfied }
      else { w with failures := w.failures + 1, state := if 3 ≤ w.failures + 1 then .failed else .waiting }
    let reported (r : Confirmation) : Confirmation := { r with segments := r.segments.map after }
    let lost (r : Confirmation) : Prop := ∃ w ∈ r.segments, w.state = .failed
    let won (r : Confirmation) : Prop := ∀ w ∈ r.segments, w.state = .satisfied
    let t := s.levelReport g intact
    t = { s with feedback := t.feedback } ∧
    (∀ r ∈ s.feedback.confirmations, ¬lost (reported r) → ¬won (reported r) → reported r ∈ t.feedback.confirmations) ∧
    (∃ kept : List Confirmation, kept.Sublist s.feedback.confirmations ∧
      t.feedback.confirmations = kept.map reported ∧ ∀ r ∈ kept, ¬lost (reported r) ∧ ¬won (reported r)) ∧
    (∀ r ∈ s.feedback.confirmations, s.hears r.station r.control = true →
      (lost (reported r) → t.shotOf r.station r.control = some false) ∧
      (¬lost (reported r) → won (reported r) → t.shotOf r.station r.control = some true)) ∧
    ∀ st k, (∀ r ∈ s.feedback.confirmations, r.station = st → r.control = k →
      ¬lost (reported r) ∧ ¬won (reported r)) → t.shotOf st k = s.shotOf st k

/-- R150 to R154: outcomes, indicator codes, and the POLL that carries them. -/
def Obligations.IndicatorCodesFollowTheState : Prop :=
  (∀ (s : State) (station control : Nat),
    (∀ ack, s.hears station control = false → s.outcome station control ack = s) ∧
    (∀ ack, s.hears station control = true →
      (s.outcome station control ack).shotOf station control = some ack ∧
      (∀ st k, ¬(st = station ∧ k = control) → (s.outcome station control ack).shotOf st k = s.shotOf st k) ∧
      s.outcome station control ack =
        { s with feedback := { s.feedback with shots := (s.outcome station control ack).feedback.shots } }) ∧
    (s.shotOf station control = some true → s.pollCode station control = .ack) ∧
    (s.shotOf station control = some false → s.pollCode station control = .nack) ∧
    (s.shotOf station control = none →
      let wait : Prop :=
        (∃ p ∈ s.cues.pendings ++ s.takenRecords, p.station = station ∧ p.control = control) ∨
        ∃ r ∈ s.feedback.confirmations, r.station = station ∧ r.control = control
      let on : Prop :=
        (∃ c : Circuit, ∃ cl ∈ (s.circ c).claims, cl.owner = .station station control) ∨
        ∃ i : WindowIndex, (s.window i).covers station control = true ∧
          (∀ j < i, (s.window j).covers station control = false) ∧
          ((∃ n, (s.window i).action = .scene n ∧ s.player.active = some n) ∨
            ((∃ op, (s.window i).action = .mode op) ∧ s.cues.mode = .performance))
      (wait → s.pollCode station control = .wait) ∧ (¬wait → on → s.pollCode station control = .on) ∧
      (¬wait → ¬on → s.pollCode station control = .off))) ∧
  ∀ (s : State) (e : RosterEntry),
    let t := s.visitEntry e
    (∃ p, t.line.phase = .sending p ∧ p.station = e.station ∧ p.reply = e.slot ∧ p.codes.length = e.controls ∧
      ∀ k < e.controls, p.codes[k]? = some (s.pollCode e.station k)) ∧
    (∀ st k, t.shotOf st k = if st = e.station ∧ k < e.controls then none else s.shotOf st k) ∧
    (∀ st k, t.steadyCode st k = s.steadyCode st k) ∧
    (∀ k < e.controls, t.pollCode e.station k = s.steadyCode e.station k) ∧
    t.feedback.confirmations = s.feedback.confirmations

/-- R176, R177, R179: SAVE and VERIFY from their acceptance to their end. That a SAVE stays at its first section and that its read-back is an
operand is log entry 16; the completions of an IDLE store are no change (log entry 5). -/
def Obligations.StoreOperationsEnd : Prop :=
  (∀ (s : State) (sender tag : Nat), s.takes sender = true →
    (∃ t, exec (.save sender tag) s = .next t ∧
      (s.store.state ≠ .idle ∨ s.mgmt.restartSet ≠ [] → State.Answered sender tag .busy [] s s t) ∧
      (s.store.state = .idle → s.mgmt.restartSet = [] →
        State.Answered sender tag .accepted [] s
          { s with
            store := { s.store with state := .saving 0, valid := false, image := Vector.replicate 6 .erased } } t)) ∧
    ∀ (code : Nat) (expected : Word), ∃ t, exec (.verify sender tag code expected) s = .next t ∧
      (6 ≤ code → State.Answered sender tag .outOfRange [] s s t) ∧
      (code < 6 → s.store.state ≠ .idle ∨ s.mgmt.restartSet ≠ [] → State.Answered sender tag .busy [] s s t) ∧
      (∀ n : SectionNo, code = n.val → s.store.state = .idle → s.mgmt.restartSet = [] →
        State.Waiting sender tag s { s with store := { s.store with state := .verifying sender n expected } } t)) ∧
  (∀ (s : State) (current : SectionNo), s.store.state = .saving current →
    exec (.saveCompletion []) s =
      .next
        { s with
          store :=
            { image := Vector.ofFn fun n => .stored (s.tables.content n) (crc16 (s.tables.content n)), valid := true,
              state := .idle, last := .save true } } ∧
    ∀ (readBack : List (List Byte)) (bad : SectionNo),
      let found : SectionNo → List Byte := fun n => overlaid (readBackOf readBack n) (s.tables.content n)
      (∀ n < bad, crc16 (found n) = crc16 (s.tables.content n)) → crc16 (found bad) ≠ crc16 (s.tables.content bad) →
      ∃ t, exec (.saveCompletion readBack) s = .next t ∧ t.store.valid = false ∧ t.store.state = .idle ∧
        t.store.last = .save false ∧ (∀ n : SectionNo, bad < n → t.store.image[n] = .erased) ∧
        t = { s with store := t.store, mgmt := { s.mgmt with flags := s.mgmt.flags ||| 0x2000#16 } }) ∧
  (∀ (s : State) (sender tag : Nat) (n : SectionNo) (expected : Word), s.store.state = .verifying sender n expected →
    s.Awaits sender tag →
    ∃ (t : State) (crc : Word), exec .verifyCompletion s = .next t ∧
      (s.store.image[n] = .erased → crc = 0xFFFF#16) ∧
      (∀ content stored, s.store.image[n] = .stored content stored → crc = crc16 content) ∧
      State.Answered sender tag .done ((if crc = expected then 0#8 else 1#8) :: wordBytes crc) s
        { s with store := { s.store with state := .idle, last := .verify (crc == expected) n crc } } t) ∧
  ∀ s : State, s.store.state = .idle →
    exec .verifyCompletion s = .next s ∧ ∀ readBack, exec (.saveCompletion readBack) s = .next s

/-- R128, R145, R148, R185, R186, R194, R195, R198: the reads of management, byte by byte. Of the layouts, "not enrolled" is log entry 12,
the pending record log entries 8 and 13, and the claim entry log entry 34. -/
def Obligations.ReadsAnswerAndChangeNothing : Prop :=
  ∀ (s : State) (sender tag : Nat), s.takes sender = true →
    (∃ t p, exec (.readStatus sender tag) s = .next t ∧ State.Answered sender tag .done p s s t ∧ p.length = 32 ∧
      p.take 7 =
        [byteOf s.part.code, boolByte s.line.lossDeclared, byteOf s.cues.mode.code, boolByte s.cues.pin,
          optByte (s.player.active.map sceneNumber), byteOf s.store.state.code, boolByte (!s.store.valid)] ∧
      (p.drop 7).take 5 =
        (match s.store.last with
        | .none => [0xFF#8, 0xFF#8, 0xFF#8, 0xFF#8, 0xFF#8]
        | .save pass => [0#8, boolByte (!pass), 0xFF#8, 0xFF#8, 0xFF#8]
        | .verify pass n crc => [1#8, boolByte (!pass), byteOf n.val] ++ wordBytes crc) ∧
      (p.drop 12).take 4 = wordBytes s.mgmt.flags ++ wordBytes s.mgmt.settings.masks ∧
      (p.drop 16).take 5 =
        [boolByte s.faultOutput, boolByte (!s.mgmt.restartSet.isEmpty), boolByte s.claims.egressAsserted,
          boolByte s.cues.cueA, boolByte s.cues.cueB] ∧
      p.drop 21 =
        be16 (1536 - s.claims.poolFree) ++
          [byteOf s.cues.pendings.length, byteOf s.feedback.confirmations.length, byteOf s.route.intake.length,
            byteOf s.mgmt.unrouted.length, byteOf s.line.roster.length] ++
          be16 (s.player.scenes.toList.map (·.entries.length)).sum ++ be16 (s.route.groups.toList.map (·.length)).sum) ∧
    (∀ kind arg position : Nat, ∃ t, exec (.readEntry sender tag kind arg position) s = .next t ∧
      ((10 ≤ kind ∨ (kind = 1 ∧ (arg = 0 ∨ 249 < arg)) ∨ (kind = 2 ∧ 63 < arg) ∨ (kind = 3 ∧ 63 < arg) ∨
          (kind = 4 ∧ (arg = 0 ∨ 96 < arg ∨ 511 < position)) ∨ (kind = 5 ∧ (arg = 0 ∨ 512 < arg)) ∨
          (kind = 7 ∧ 3 < arg) ∨ (kind = 8 ∧ (arg = 0 ∨ 512 < arg)) ∨ (kind = 9 ∧ 31 < arg)) →
        State.Answered sender tag .outOfRange [] s s t) ∧
      (kind = 0 →
        let x := s.mgmt.settings
        State.Answered sender tag .done
          ([byteOf x.lineLoss] ++ be16 x.modeFade ++ be16 x.recoveryFade ++
            [byteOf (match x.powerOnScene with | some n => sceneNumber n | none => 0), boolByte x.learn,
              boolByte x.houseToCue] ++ wordBytes x.masks) s s t) ∧
      (kind = 1 → 1 ≤ arg → arg ≤ 249 →
        (∀ e, s.entryOf arg = some e →
          State.Answered sender tag .done
            [byteOf e.station, byteOf e.controls, byteOf e.privilege.code, byteOf e.live.code, byteOf e.missed,
              boolByte (s.claims.order.contains (.absence arg))] s s t) ∧
        (s.entryOf arg = none →
          State.Answered sender tag .done [0xFF#8, 0xFF#8, 0xFF#8, 0xFF#8, 0xFF#8, 0xFF#8] s s t)) ∧
      (kind = 2 → ∀ i : WindowIndex, arg = i.val →
        let w := s.window i
        State.Answered sender tag .done
          ([boolByte w.enabled, byteOf w.stationFirst, byteOf w.stationLast, byteOf w.controlFirst,
              byteOf w.controlLast, byteOf w.trigger.code, byteOf w.action.code, byteOf w.target.kindCode] ++
            be16 w.target.argument ++ be16 w.rowPitch ++ [byteOf w.layer.code] ++ be16 w.level ++ [byteOf w.step] ++
            be16 w.fade ++ be16 w.hold ++
            [byteOf w.apply.code, byteOf w.feedback.code, byteOf w.action.argument, boolByte w.showSafe]) s s t) ∧
      (kind = 3 → ∀ g : GroupNo, arg = g.val →
        State.Answered sender tag .done
          ([byteOf (s.route.groups[g]).length] ++ (s.route.groups[g]).flatMap fun c => be16 (circuitNumber c)) s s t) ∧
      (kind = 4 → position ≤ 511 → ∀ n : SceneNo, arg = sceneNumber n →
        let x := s.player.scenes[n]
        State.Answered sender tag .done
          (be16 x.fade ++ be16 x.entries.length ++
            ((x.entries.drop position).take 32).flatMap fun e => be16 (circuitNumber e.circuit) ++ be16 e.level) s s t) ∧
      (kind = 5 → ∀ c : Circuit, arg = circuitNumber c →
        let e := s.eng c
        let a := e.attr
        State.Answered sender tag .done
          ([byteOf a.curve.code] ++ be16 a.preheat ++ be16 a.topSet ++ be16 a.switchPoint ++
            [byteOf (match a.masterGroup with | some m => m.val | none => 0xFF)] ++ be16 a.defaultFade ++
            [byteOf a.mergeRule.code, boolByte a.egress] ++ be16 a.egressLevel ++ [byteOf a.lossAction.code] ++
            be16 a.lossLevel ++ be16 e.target ++ [boolByte e.safety] ++ be16 e.level ++ be16 e.fadeTarget ++
            be16 (if e.fadeActive then e.fadeSteps - e.fadeTaken else 0) ++ be16 e.code) s s t) ∧
      (kind = 6 → State.Answered sender tag .done
        (be16 s.engine.masters[0] ++ be16 s.engine.masters[1] ++ be16 s.engine.masters[2] ++ be16 s.engine.masters[3])
        s s t) ∧
      (kind = 7 → ∀ g : Segment, arg = g.val → ∃ p, State.Answered sender tag .done p s s t ∧ p.length = 138 ∧
        p.take 5 =
          (match s.loop.fault with
          | none => [0xFF#8, 0xFF#8, 0xFF#8, 0xFF#8, 0xFF#8]
          | some f => [byteOf f.kind.code, byteOf f.segment.val] ++
              (match f.circuit with | some c => be16 (circuitNumber c) | none => [0xFF#8, 0xFF#8]) ++
              [byteOf f.count]) ∧
        (p.drop 5).take 5 =
          [byteOf s.loop.failures, byteOf s.loop.openRun, byteOf s.loop.outstanding.length,
            byteOf s.loop.waiting.length, s.loop.nextSeq] ∧
        ∀ c : Circuit, segmentOf c = g → p[10 + c.val % 128]? = some (byteOf (s.loop.status[c]).code)) ∧
      (kind = 8 → ∀ c : Circuit, arg = circuitNumber c →
        let row (cl : Claim) : List Byte :=
          be16 (circuitNumber c) ++ [byteOf cl.layer.code] ++
            (match cl.owner with
            | .station st k => [0#8, byteOf st, byteOf k]
            | .management => [1#8, 0xFF#8, 0xFF#8]
            | .scenePlayer => [2#8, 0xFF#8, 0xFF#8]) ++
            [(match cl.window with | some i => byteOf i.val | none => 0xFF#8), byteOf cl.kind.code] ++ be16 cl.level ++
            be16 cl.fade ++ (match cl.kind with | .timed left => be16 left | _ => [0xFF#8, 0xFF#8])
        State.Answered sender tag .done
          ([byteOf (s.circ c).claims.length] ++ (s.circ c).claims.flatMap row ++ optBe16 (s.circ c).egress ++
            optBe16 (s.circ c).loss ++ be16 (s.circ c).target ++ [byteOf (s.circ c).winner.code]) s s t) ∧
      (kind = 9 → arg ≤ 31 →
        let head (p : Pending) : List Byte :=
          [0#8, byteOf p.station, byteOf p.control, byteOf p.window.val, byteOf (cueCode p.cue)]
        let none2 : List Byte := [0xFF#8, 0xFF#8]
        let body (p : Pending) : List Byte :=
          match p.work with
          | .claim layer work target =>
            let ref := match target with | .circuit c => be16 (circuitNumber c) | .group g => be16 g.val
            match work with
            | .setLevel level fade =>
              [0#8, byteOf layer.code] ++ be16 level ++ be16 fade ++ none2 ++ [0xFF#8] ++ ref
            | .toggle level fade =>
              [1#8, byteOf layer.code] ++ be16 level ++ be16 fade ++ none2 ++ [0xFF#8] ++ ref
            | .clear => [2#8, byteOf layer.code] ++ none2 ++ none2 ++ none2 ++ [0xFF#8] ++ ref
            | .timed level fade hold =>
              [4#8, byteOf layer.code] ++ be16 level ++ be16 fade ++ be16 hold ++ [0xFF#8] ++ ref
            | _ => (p.bytes.drop 5).take 11
          | .scene n => [9#8, 0xFF#8] ++ none2 ++ none2 ++ none2 ++ [byteOf (sceneNumber n)] ++ none2
          | .sceneOff => [10#8, 0xFF#8] ++ none2 ++ none2 ++ none2 ++ [0xFF#8] ++ none2
        State.Answered sender tag .done
          ([byteOf s.cues.pendings.length] ++ ((s.cues.pendings.drop arg).take 8).flatMap fun p =>
            head p ++ body p ++ [byteOf p.feedback.code]) s s t)) ∧
    ∃ t, exec (.readUnrouted sender tag) s = .next t ∧
      (s.mgmt.unrouted = [] → State.Answered sender tag .done [0xFF#8, 0xFF#8, 0xFF#8] s s t) ∧
      ∀ u rest, s.mgmt.unrouted = u :: rest →
        State.Answered sender tag .done [byteOf u.station, byteOf u.control, byteOf u.kind.code] s
          { s with mgmt := { s.mgmt with unrouted := rest } } t

/-- R187 to R190: flags, masks and the FAULT output. -/
def Obligations.FlagsAndMasksDriveFault : Prop :=
  let bare : Flag → Prop := fun f => f = .egressFault ∨ f = .lineLost ∨ f = .storeFault
  let named : Word → Flag → Prop := fun w f => w.getLsbD f.index = true
  (∀ (s : State) (f g : Flag), (s.report f).flagSet g = true ↔ g = f ∨ s.flagSet g = true) ∧
  (∀ s : State, s.faultOutput = true ↔
    ∃ f : Flag, s.flagSet f = true ∧ (bare f ∨ ¬named s.mgmt.settings.masks f)) ∧
  ∀ (s : State) (sender tag : Nat) (word : Word), s.takes sender = true →
    (∃ t, exec (.clearFlags sender tag word) s = .next t ∧
      State.Answered sender tag .done (wordBytes t.mgmt.flags) s
        { s with mgmt := { s.mgmt with flags := t.mgmt.flags } } t ∧
      ∀ f : Flag, t.flagSet f = true ↔
        s.flagSet f = true ∧
          (¬named word f ∨ (f = .lineLost ∧ s.line.lossDeclared = true) ∨ (f = .storeFault ∧ s.store.valid = false))) ∧
    ∃ t, exec (.setMask sender tag word) s = .next t ∧
      (s.store.state ≠ .idle → State.Answered sender tag .busy [] s s t) ∧
      (s.store.state = .idle →
        State.Answered sender tag
          (if word &&& 0x2060#16 = 0 then .done else .adjusted) [] s
          { s with mgmt := { s.mgmt with settings := { s.mgmt.settings with masks := t.mgmt.settings.masks } } } t ∧
        ∀ f : Flag, named t.mgmt.settings.masks f ↔ named word f ∧ ¬bare f)

/-- R180, R191, R198: WRITE_SETTINGS and RESTART. -/
def Obligations.SettingsAndRestartAreTaken : Prop :=
  ∀ (s : State) (sender tag : Nat), s.takes sender = true →
    (∀ f : SettingsFields, ∃ t, exec (.writeSettings sender tag f) s = .next t ∧
      (s.store.state ≠ .idle → State.Answered sender tag .busy [] s s t) ∧
      (s.store.state = .idle → 96 < f.powerOnScene ∨ 1 < f.learn ∨ 1 < f.houseToCue →
        State.Answered sender tag .outOfRange [] s s t) ∧
      (s.store.state = .idle → f.powerOnScene ≤ 96 → f.learn ≤ 1 → f.houseToCue ≤ 1 →
        let good : Bool := decide (5 ≤ f.lineLoss ∧ f.lineLoss ≤ 100 ∧ f.modeFade ≤ 6000 ∧ f.recoveryFade ≤ 6000)
        State.Answered sender tag (if good then .done else .adjusted) [] s
          { s with
            mgmt :=
              { s.mgmt with
                settings :=
                  { lineLoss := max 5 (min 100 f.lineLoss), modeFade := min f.modeFade 6000,
                    recoveryFade := min f.recoveryFade 6000, powerOnScene := sceneOf f.powerOnScene,
                    learn := f.learn == 1, houseToCue := f.houseToCue == 1, masks := s.mgmt.settings.masks }
                unrouted := if s.mgmt.settings.learn = true ∧ f.learn = 0 then [] else s.mgmt.unrouted } } t)) ∧
    ∃ t, exec (.restart sender tag) s = .next t ∧
      (s.store.state ≠ .idle → State.Answered sender tag .busy [] s s t) ∧
      (s.store.state = .idle →
        State.Answered sender tag .accepted [] s
          { s with mgmt := { s.mgmt with restartSet := t.mgmt.restartSet } } t ∧
        ∀ n, n ∈ t.mgmt.restartSet ↔ n = sender ∨ n ∈ s.mgmt.restartSet)

/-- R48, R49, R97: the fields that a WRITE_WINDOW describes, and window writes. That a show_safe or enable code which is neither 0 nor 1
is OUT_OF_RANGE is the model's reading (log entry 10). -/
def Obligations.WindowsAreWrittenDisabled : Prop :=
  (∀ f : WindowFields,
    (windowOf false f = none ↔
      ¬(1 ≤ f.stationFirst ∧ f.stationFirst ≤ f.stationLast ∧ f.stationLast ≤ 249) ∨
      ¬(f.controlFirst ≤ f.controlLast ∧ f.controlLast ≤ 31) ∨
      2 < f.trigger ∨ 12 < f.action ∨ 2 < f.targetKind ∨ 1 < f.layer ∨ 2 < f.apply ∨ 1 < f.feedback ∨
      (f.targetKind = 0 ∧ ¬(1 ≤ f.targetArg ∧ f.targetArg ≤ 512)) ∨ (f.targetKind = 1 ∧ 63 < f.targetArg) ∨
      (f.action = 8 ∧ 3 < f.argument) ∨ (f.action = 9 ∧ ¬(1 ≤ f.argument ∧ f.argument ≤ 96)) ∨
      (f.action = 11 ∧ 2 < f.argument) ∨ (f.action = 12 ∧ 1 < f.argument) ∨ 1 < f.showSafe) ∧
    (clampWindow f = f ↔
      f.rowPitch ≤ 512 ∧ f.level ≤ 1000 ∧ 1 ≤ f.step ∧ f.step ≤ 250 ∧ f.fade ≤ 6000 ∧ 1 ≤ f.hold ∧ f.hold ≤ 7200) ∧
    ∀ w, windowOf false f = some w →
      w.enabled = false ∧ w.stationFirst = f.stationFirst ∧ w.stationLast = f.stationLast ∧
      w.controlFirst = f.controlFirst ∧ w.controlLast = f.controlLast ∧ w.trigger.code = f.trigger ∧
      w.action.code = f.action ∧
      w.action.argument = (if f.action = 8 ∨ f.action = 9 ∨ f.action = 11 ∨ f.action = 12 then f.argument else 0xFF) ∧
      w.target.kindCode = f.targetKind ∧ w.target.argument = (if f.targetKind = 2 then 0xFFFF else f.targetArg) ∧
      w.layer.code = f.layer ∧ w.apply.code = f.apply ∧ w.feedback.code = f.feedback ∧
      (w.showSafe = true ↔ f.showSafe = 1) ∧ w.rowPitch = min 512 f.rowPitch ∧ w.level = min 1000 f.level ∧
      w.step = max 1 (min 250 f.step) ∧ w.fade = min 6000 f.fade ∧ w.hold = max 1 (min 7200 f.hold)) ∧
  ∀ (s : State) (sender tag : Nat), s.takes sender = true →
    (∀ (index enable : Nat) (f : WindowFields), 64 ≤ index →
      (∃ t, exec (.writeWindow sender tag index f) s = .next t ∧ State.Answered sender tag .outOfRange [] s s t) ∧
      ∃ t, exec (.setWindow sender tag index enable) s = .next t ∧ State.Answered sender tag .outOfRange [] s s t) ∧
    ∀ i : WindowIndex,
      (s.store.state ≠ .idle ∨ s.recallInFlight = true →
        (∀ f, ∃ t, exec (.writeWindow sender tag i.val f) s = .next t ∧ State.Answered sender tag .busy [] s s t) ∧
        ∀ enable, ∃ t, exec (.setWindow sender tag i.val enable) s = .next t ∧
          State.Answered sender tag .busy [] s s t) ∧
      (s.store.state = .idle → s.recallInFlight = false →
        let with_ (w : Window) : State := { s with route := { s.route with windows := s.route.windows.set i w } }
        (∀ f, ∃ t, exec (.writeWindow sender tag i.val f) s = .next t ∧
          ((s.window i).enabled = true → State.Answered sender tag .refusedLive [] s s t) ∧
          ((s.window i).enabled = false → windowOf false f = none → State.Answered sender tag .outOfRange [] s s t) ∧
          (∀ w, (s.window i).enabled = false → windowOf false f = some w →
            State.Answered sender tag (if clampWindow f = f then .done else .adjusted) [] s (with_ w) t ∧
            w.enabled = false ∧ w.rowPitch = min 512 f.rowPitch ∧ w.level = min 1000 f.level ∧
            w.step = max 1 (min 250 f.step) ∧ w.fade = min 6000 f.fade ∧ w.hold = max 1 (min 7200 f.hold) ∧
            1 ≤ w.stationFirst ∧ w.stationFirst ≤ w.stationLast ∧ w.stationLast ≤ 249 ∧
            w.controlFirst ≤ w.controlLast ∧ w.controlLast ≤ 31)) ∧
        (∀ enable, 2 ≤ enable → ∃ t, exec (.setWindow sender tag i.val enable) s = .next t ∧
          State.Answered sender tag .outOfRange [] s s t) ∧
        (∃ t, exec (.setWindow sender tag i.val 1) s = .next t ∧
          State.Answered sender tag .done [] s (with_ { s.window i with enabled := true }) t) ∧
        ((s.window i).enabled = false → ∃ t, exec (.setWindow sender tag i.val 0) s = .next t ∧
          State.Answered sender tag .done [] s s t) ∧
        ((s.window i).enabled = true → ∃ t, exec (.setWindow sender tag i.val 0) s = .next t ∧
          State.Answered sender tag .done [] s
            { with_ { s.window i with enabled := false } with
              cues := { s.cues with pendings := s.cues.pendings.filter fun p => !(p.window == i) }
              feedback := t.feedback } t ∧
          t.feedback.confirmations = s.feedback.confirmations ∧
          ∀ p ∈ s.cues.pendings, p.window = i → s.hears p.station p.control = true →
            t.shotOf p.station p.control = some false))

/-- R47: group edits. -/
def Obligations.GroupMembersAreEdited : Prop :=
  ∀ (s : State) (sender tag group circuit : Nat), s.takes sender = true →
    ∃ t u, exec (.addGroupMember sender tag group circuit) s = .next t ∧
      exec (.removeGroupMember sender tag group circuit) s = .next u ∧
      (64 ≤ group ∨ circuit = 0 ∨ 512 < circuit →
        State.Answered sender tag .outOfRange [] s s t ∧ State.Answered sender tag .outOfRange [] s s u) ∧
      ∀ (g : GroupNo) (c : Circuit), group = g.val → circuit = circuitNumber c →
        let with_ (l : List Circuit) : State := { s with route := { s.route with groups := s.route.groups.set g l } }
        (s.store.state ≠ .idle ∨ s.recallInFlight = true →
          State.Answered sender tag .busy [] s s t ∧ State.Answered sender tag .busy [] s s u) ∧
        (s.store.state = .idle → s.recallInFlight = false →
          (c ∈ s.route.groups[g] → State.Answered sender tag .done [] s s t) ∧
          (c ∉ s.route.groups[g] → 32 ≤ (s.route.groups[g]).length ∨ 1024 ≤ s.groupPlacesUsed →
            State.Answered sender tag .noSpace [] s s t) ∧
          (c ∉ s.route.groups[g] → (s.route.groups[g]).length < 32 → s.groupPlacesUsed < 1024 →
            (s.route.groups[g]).Pairwise (· < ·) →
            ∃ l, State.Answered sender tag .done [] s (with_ l) t ∧ l.Pairwise (· < ·) ∧
              ∀ k, k ∈ l ↔ k = c ∨ k ∈ s.route.groups[g]) ∧
          ∃ l, State.Answered sender tag .done [] s (with_ l) u ∧
            ∀ k, k ∈ l ↔ k ≠ c ∧ k ∈ s.route.groups[g])
end

