-- ==== Sys2Proof/Laws/State.lean ====
section
/-! SUPPORT. What each update of the state leaves and writes, field by field, so that no proof needs to unfold a record update. -/

namespace Sys2Proof.Machine

/-! ### withPending -/

@[simp] theorem State.withPending_powered (s : State) (l : List Instr) : (s.withPending l).powered = s.powered := rfl
@[simp] theorem State.withPending_part (s : State) (l : List Instr) : (s.withPending l).part = s.part := rfl
@[simp] theorem State.withPending_line (s : State) (l : List Instr) : (s.withPending l).line = s.line := rfl
@[simp] theorem State.withPending_route (s : State) (l : List Instr) : (s.withPending l).route = s.route := rfl
@[simp] theorem State.withPending_claims (s : State) (l : List Instr) : (s.withPending l).claims = s.claims := rfl
@[simp] theorem State.withPending_player (s : State) (l : List Instr) : (s.withPending l).player = s.player := rfl
@[simp] theorem State.withPending_cues (s : State) (l : List Instr) : (s.withPending l).cues = s.cues := rfl
@[simp] theorem State.withPending_engine (s : State) (l : List Instr) : (s.withPending l).engine = s.engine := rfl
@[simp] theorem State.withPending_loop (s : State) (l : List Instr) : (s.withPending l).loop = s.loop := rfl
@[simp] theorem State.withPending_feedback (s : State) (l : List Instr) : (s.withPending l).feedback = s.feedback := rfl
@[simp] theorem State.withPending_store (s : State) (l : List Instr) : (s.withPending l).store = s.store := rfl
@[simp] theorem State.withPending_mgmt (s : State) (l : List Instr) : (s.withPending l).mgmt = s.mgmt := rfl
@[simp] theorem State.withPending_pending (s : State) (l : List Instr) :
    (s.withPending l).pending = l := rfl
@[simp] theorem State.withPending_circ (s : State) (l : List Instr) (c : Circuit) :
    (s.withPending l).circ c = s.circ c := rfl
@[simp] theorem State.withPending_eng (s : State) (l : List Instr) (c : Circuit) :
    (s.withPending l).eng c = s.eng c := rfl

/-! ### withLoop -/

@[simp] theorem State.withLoop_powered (s : State) (l : LoopBlock) : (s.withLoop l).powered = s.powered := rfl
@[simp] theorem State.withLoop_part (s : State) (l : LoopBlock) : (s.withLoop l).part = s.part := rfl
@[simp] theorem State.withLoop_line (s : State) (l : LoopBlock) : (s.withLoop l).line = s.line := rfl
@[simp] theorem State.withLoop_route (s : State) (l : LoopBlock) : (s.withLoop l).route = s.route := rfl
@[simp] theorem State.withLoop_claims (s : State) (l : LoopBlock) : (s.withLoop l).claims = s.claims := rfl
@[simp] theorem State.withLoop_player (s : State) (l : LoopBlock) : (s.withLoop l).player = s.player := rfl
@[simp] theorem State.withLoop_cues (s : State) (l : LoopBlock) : (s.withLoop l).cues = s.cues := rfl
@[simp] theorem State.withLoop_engine (s : State) (l : LoopBlock) : (s.withLoop l).engine = s.engine := rfl
@[simp] theorem State.withLoop_loop (s : State) (l : LoopBlock) :
    (s.withLoop l).loop = l := rfl
@[simp] theorem State.withLoop_feedback (s : State) (l : LoopBlock) : (s.withLoop l).feedback = s.feedback := rfl
@[simp] theorem State.withLoop_store (s : State) (l : LoopBlock) : (s.withLoop l).store = s.store := rfl
@[simp] theorem State.withLoop_mgmt (s : State) (l : LoopBlock) : (s.withLoop l).mgmt = s.mgmt := rfl
@[simp] theorem State.withLoop_pending (s : State) (l : LoopBlock) : (s.withLoop l).pending = s.pending := rfl
@[simp] theorem State.withLoop_circ (s : State) (l : LoopBlock) (c : Circuit) :
    (s.withLoop l).circ c = s.circ c := rfl
@[simp] theorem State.withLoop_eng (s : State) (l : LoopBlock) (c : Circuit) :
    (s.withLoop l).eng c = s.eng c := rfl

/-! ### withLine -/

@[simp] theorem State.withLine_powered (s : State) (l : LineBlock) : (s.withLine l).powered = s.powered := rfl
@[simp] theorem State.withLine_part (s : State) (l : LineBlock) : (s.withLine l).part = s.part := rfl
@[simp] theorem State.withLine_line (s : State) (l : LineBlock) :
    (s.withLine l).line = l := rfl
@[simp] theorem State.withLine_route (s : State) (l : LineBlock) : (s.withLine l).route = s.route := rfl
@[simp] theorem State.withLine_claims (s : State) (l : LineBlock) : (s.withLine l).claims = s.claims := rfl
@[simp] theorem State.withLine_player (s : State) (l : LineBlock) : (s.withLine l).player = s.player := rfl
@[simp] theorem State.withLine_cues (s : State) (l : LineBlock) : (s.withLine l).cues = s.cues := rfl
@[simp] theorem State.withLine_engine (s : State) (l : LineBlock) : (s.withLine l).engine = s.engine := rfl
@[simp] theorem State.withLine_loop (s : State) (l : LineBlock) : (s.withLine l).loop = s.loop := rfl
@[simp] theorem State.withLine_feedback (s : State) (l : LineBlock) : (s.withLine l).feedback = s.feedback := rfl
@[simp] theorem State.withLine_store (s : State) (l : LineBlock) : (s.withLine l).store = s.store := rfl
@[simp] theorem State.withLine_mgmt (s : State) (l : LineBlock) : (s.withLine l).mgmt = s.mgmt := rfl
@[simp] theorem State.withLine_pending (s : State) (l : LineBlock) : (s.withLine l).pending = s.pending := rfl
@[simp] theorem State.withLine_circ (s : State) (l : LineBlock) (c : Circuit) :
    (s.withLine l).circ c = s.circ c := rfl
@[simp] theorem State.withLine_eng (s : State) (l : LineBlock) (c : Circuit) :
    (s.withLine l).eng c = s.eng c := rfl

/-! ### report -/

@[simp] theorem State.report_powered (s : State) (f : Flag) : (s.report f).powered = s.powered := rfl
@[simp] theorem State.report_part (s : State) (f : Flag) : (s.report f).part = s.part := rfl
@[simp] theorem State.report_line (s : State) (f : Flag) : (s.report f).line = s.line := rfl
@[simp] theorem State.report_route (s : State) (f : Flag) : (s.report f).route = s.route := rfl
@[simp] theorem State.report_claims (s : State) (f : Flag) : (s.report f).claims = s.claims := rfl
@[simp] theorem State.report_player (s : State) (f : Flag) : (s.report f).player = s.player := rfl
@[simp] theorem State.report_cues (s : State) (f : Flag) : (s.report f).cues = s.cues := rfl
@[simp] theorem State.report_engine (s : State) (f : Flag) : (s.report f).engine = s.engine := rfl
@[simp] theorem State.report_loop (s : State) (f : Flag) : (s.report f).loop = s.loop := rfl
@[simp] theorem State.report_feedback (s : State) (f : Flag) : (s.report f).feedback = s.feedback := rfl
@[simp] theorem State.report_store (s : State) (f : Flag) : (s.report f).store = s.store := rfl
@[simp] theorem State.report_mgmt (s : State) (f : Flag) :
    (s.report f).mgmt = { s.mgmt with flags := s.mgmt.flags ||| f.word } := rfl
@[simp] theorem State.report_pending (s : State) (f : Flag) : (s.report f).pending = s.pending := rfl
@[simp] theorem State.report_circ (s : State) (f : Flag) (c : Circuit) :
    (s.report f).circ c = s.circ c := rfl
@[simp] theorem State.report_eng (s : State) (f : Flag) (c : Circuit) :
    (s.report f).eng c = s.eng c := rfl

/-! ### modifyEntry -/

@[simp] theorem State.modifyEntry_powered (s : State) (n : Nat) (f : RosterEntry → RosterEntry) :
    (s.modifyEntry n f).powered = s.powered := rfl
@[simp] theorem State.modifyEntry_part (s : State) (n : Nat) (f : RosterEntry → RosterEntry) : (s.modifyEntry n f).part = s.part := rfl
@[simp] theorem State.modifyEntry_line (s : State) (n : Nat) (f : RosterEntry → RosterEntry) :
    (s.modifyEntry n f).line = { s.line with roster := s.line.roster.map fun e => if e.station = n then f e else e } := rfl
@[simp] theorem State.modifyEntry_route (s : State) (n : Nat) (f : RosterEntry → RosterEntry) : (s.modifyEntry n f).route = s.route := rfl
@[simp] theorem State.modifyEntry_claims (s : State) (n : Nat) (f : RosterEntry → RosterEntry) :
    (s.modifyEntry n f).claims = s.claims := rfl
@[simp] theorem State.modifyEntry_player (s : State) (n : Nat) (f : RosterEntry → RosterEntry) :
    (s.modifyEntry n f).player = s.player := rfl
@[simp] theorem State.modifyEntry_cues (s : State) (n : Nat) (f : RosterEntry → RosterEntry) : (s.modifyEntry n f).cues = s.cues := rfl
@[simp] theorem State.modifyEntry_engine (s : State) (n : Nat) (f : RosterEntry → RosterEntry) :
    (s.modifyEntry n f).engine = s.engine := rfl
@[simp] theorem State.modifyEntry_loop (s : State) (n : Nat) (f : RosterEntry → RosterEntry) : (s.modifyEntry n f).loop = s.loop := rfl
@[simp] theorem State.modifyEntry_feedback (s : State) (n : Nat) (f : RosterEntry → RosterEntry) :
    (s.modifyEntry n f).feedback = s.feedback := rfl
@[simp] theorem State.modifyEntry_store (s : State) (n : Nat) (f : RosterEntry → RosterEntry) : (s.modifyEntry n f).store = s.store := rfl
@[simp] theorem State.modifyEntry_mgmt (s : State) (n : Nat) (f : RosterEntry → RosterEntry) : (s.modifyEntry n f).mgmt = s.mgmt := rfl
@[simp] theorem State.modifyEntry_pending (s : State) (n : Nat) (f : RosterEntry → RosterEntry) :
    (s.modifyEntry n f).pending = s.pending := rfl
@[simp] theorem State.modifyEntry_circ (s : State) (n : Nat) (f : RosterEntry → RosterEntry) (c : Circuit) :
    (s.modifyEntry n f).circ c = s.circ c := rfl
@[simp] theorem State.modifyEntry_eng (s : State) (n : Nat) (f : RosterEntry → RosterEntry) (c : Circuit) :
    (s.modifyEntry n f).eng c = s.eng c := rfl

/-! ### endRequest -/

@[simp] theorem State.endRequest_powered (s : State) (n : Nat) : (s.endRequest n).powered = s.powered := rfl
@[simp] theorem State.endRequest_part (s : State) (n : Nat) : (s.endRequest n).part = s.part := rfl
@[simp] theorem State.endRequest_line (s : State) (n : Nat) : (s.endRequest n).line = s.line := rfl
@[simp] theorem State.endRequest_route (s : State) (n : Nat) : (s.endRequest n).route = s.route := rfl
@[simp] theorem State.endRequest_claims (s : State) (n : Nat) : (s.endRequest n).claims = s.claims := rfl
@[simp] theorem State.endRequest_player (s : State) (n : Nat) : (s.endRequest n).player = s.player := rfl
@[simp] theorem State.endRequest_cues (s : State) (n : Nat) : (s.endRequest n).cues = s.cues := rfl
@[simp] theorem State.endRequest_engine (s : State) (n : Nat) : (s.endRequest n).engine = s.engine := rfl
@[simp] theorem State.endRequest_loop (s : State) (n : Nat) : (s.endRequest n).loop = s.loop := rfl
@[simp] theorem State.endRequest_feedback (s : State) (n : Nat) : (s.endRequest n).feedback = s.feedback := rfl
@[simp] theorem State.endRequest_store (s : State) (n : Nat) : (s.endRequest n).store = s.store := rfl
@[simp] theorem State.endRequest_mgmt (s : State) (n : Nat) :
    (s.endRequest n).mgmt = { s.mgmt with requests := s.mgmt.requests.filter (·.station != n) } := rfl
@[simp] theorem State.endRequest_pending (s : State) (n : Nat) : (s.endRequest n).pending = s.pending := rfl
@[simp] theorem State.endRequest_circ (s : State) (n : Nat) (c : Circuit) :
    (s.endRequest n).circ c = s.circ c := rfl
@[simp] theorem State.endRequest_eng (s : State) (n : Nat) (c : Circuit) :
    (s.endRequest n).eng c = s.eng c := rfl

/-! ### beginRequest -/

@[simp] theorem State.beginRequest_powered (s : State) (n tag : Nat) : (s.beginRequest n tag).powered = s.powered := rfl
@[simp] theorem State.beginRequest_part (s : State) (n tag : Nat) : (s.beginRequest n tag).part = s.part := rfl
@[simp] theorem State.beginRequest_line (s : State) (n tag : Nat) : (s.beginRequest n tag).line = s.line := rfl
@[simp] theorem State.beginRequest_route (s : State) (n tag : Nat) : (s.beginRequest n tag).route = s.route := rfl
@[simp] theorem State.beginRequest_claims (s : State) (n tag : Nat) : (s.beginRequest n tag).claims = s.claims := rfl
@[simp] theorem State.beginRequest_player (s : State) (n tag : Nat) : (s.beginRequest n tag).player = s.player := rfl
@[simp] theorem State.beginRequest_cues (s : State) (n tag : Nat) : (s.beginRequest n tag).cues = s.cues := rfl
@[simp] theorem State.beginRequest_engine (s : State) (n tag : Nat) : (s.beginRequest n tag).engine = s.engine := rfl
@[simp] theorem State.beginRequest_loop (s : State) (n tag : Nat) : (s.beginRequest n tag).loop = s.loop := rfl
@[simp] theorem State.beginRequest_feedback (s : State) (n tag : Nat) : (s.beginRequest n tag).feedback = s.feedback := rfl
@[simp] theorem State.beginRequest_store (s : State) (n tag : Nat) : (s.beginRequest n tag).store = s.store := rfl
@[simp] theorem State.beginRequest_mgmt (s : State) (n tag : Nat) :
    (s.beginRequest n tag).mgmt = { s.mgmt with requests := s.mgmt.requests ++ [{ station := n, tag := tag }] } := rfl
@[simp] theorem State.beginRequest_pending (s : State) (n tag : Nat) : (s.beginRequest n tag).pending = s.pending := rfl
@[simp] theorem State.beginRequest_circ (s : State) (n tag : Nat) (c : Circuit) :
    (s.beginRequest n tag).circ c = s.circ c := rfl
@[simp] theorem State.beginRequest_eng (s : State) (n tag : Nat) (c : Circuit) :
    (s.beginRequest n tag).eng c = s.eng c := rfl

/-! ### request -/

@[simp] theorem State.request_powered (s : State) (r : Request) : (s.request r).powered = s.powered := rfl
@[simp] theorem State.request_part (s : State) (r : Request) : (s.request r).part = s.part := rfl
@[simp] theorem State.request_line (s : State) (r : Request) : (s.request r).line = s.line := rfl
@[simp] theorem State.request_route (s : State) (r : Request) : (s.request r).route = s.route := rfl
@[simp] theorem State.request_claims (s : State) (r : Request) :
    (s.request r).claims = { s.claims with order := s.claims.order ++ [r] } := rfl
@[simp] theorem State.request_player (s : State) (r : Request) : (s.request r).player = s.player := rfl
@[simp] theorem State.request_cues (s : State) (r : Request) : (s.request r).cues = s.cues := rfl
@[simp] theorem State.request_engine (s : State) (r : Request) : (s.request r).engine = s.engine := rfl
@[simp] theorem State.request_loop (s : State) (r : Request) : (s.request r).loop = s.loop := rfl
@[simp] theorem State.request_feedback (s : State) (r : Request) : (s.request r).feedback = s.feedback := rfl
@[simp] theorem State.request_store (s : State) (r : Request) : (s.request r).store = s.store := rfl
@[simp] theorem State.request_mgmt (s : State) (r : Request) : (s.request r).mgmt = s.mgmt := rfl
@[simp] theorem State.request_pending (s : State) (r : Request) : (s.request r).pending = s.pending := rfl
@[simp] theorem State.request_eng (s : State) (r : Request) (c : Circuit) :
    (s.request r).eng c = s.eng c := rfl

/-! ### withdraw -/

@[simp] theorem State.withdraw_powered (s : State) (gone : Request → Bool) : (s.withdraw gone).powered = s.powered := rfl
@[simp] theorem State.withdraw_part (s : State) (gone : Request → Bool) : (s.withdraw gone).part = s.part := rfl
@[simp] theorem State.withdraw_line (s : State) (gone : Request → Bool) : (s.withdraw gone).line = s.line := rfl
@[simp] theorem State.withdraw_route (s : State) (gone : Request → Bool) : (s.withdraw gone).route = s.route := rfl
@[simp] theorem State.withdraw_claims (s : State) (gone : Request → Bool) :
    (s.withdraw gone).claims = { s.claims with order := s.claims.order.filter fun r => !gone r } := rfl
@[simp] theorem State.withdraw_player (s : State) (gone : Request → Bool) : (s.withdraw gone).player = s.player := rfl
@[simp] theorem State.withdraw_cues (s : State) (gone : Request → Bool) : (s.withdraw gone).cues = s.cues := rfl
@[simp] theorem State.withdraw_engine (s : State) (gone : Request → Bool) : (s.withdraw gone).engine = s.engine := rfl
@[simp] theorem State.withdraw_loop (s : State) (gone : Request → Bool) : (s.withdraw gone).loop = s.loop := rfl
@[simp] theorem State.withdraw_feedback (s : State) (gone : Request → Bool) : (s.withdraw gone).feedback = s.feedback := rfl
@[simp] theorem State.withdraw_store (s : State) (gone : Request → Bool) : (s.withdraw gone).store = s.store := rfl
@[simp] theorem State.withdraw_mgmt (s : State) (gone : Request → Bool) : (s.withdraw gone).mgmt = s.mgmt := rfl
@[simp] theorem State.withdraw_pending (s : State) (gone : Request → Bool) : (s.withdraw gone).pending = s.pending := rfl
@[simp] theorem State.withdraw_eng (s : State) (gone : Request → Bool) (c : Circuit) :
    (s.withdraw gone).eng c = s.eng c := rfl

/-! ### takeHead -/

@[simp] theorem State.takeHead_powered (s : State) : (s.takeHead).powered = s.powered := rfl
@[simp] theorem State.takeHead_part (s : State) : (s.takeHead).part = s.part := rfl
@[simp] theorem State.takeHead_line (s : State) : (s.takeHead).line = s.line := rfl
@[simp] theorem State.takeHead_route (s : State) : (s.takeHead).route = s.route := rfl
@[simp] theorem State.takeHead_claims (s : State) :
    (s.takeHead).claims = { s.claims with order := s.claims.order.tail } := rfl
@[simp] theorem State.takeHead_player (s : State) : (s.takeHead).player = s.player := rfl
@[simp] theorem State.takeHead_cues (s : State) : (s.takeHead).cues = s.cues := rfl
@[simp] theorem State.takeHead_engine (s : State) : (s.takeHead).engine = s.engine := rfl
@[simp] theorem State.takeHead_loop (s : State) : (s.takeHead).loop = s.loop := rfl
@[simp] theorem State.takeHead_feedback (s : State) : (s.takeHead).feedback = s.feedback := rfl
@[simp] theorem State.takeHead_store (s : State) : (s.takeHead).store = s.store := rfl
@[simp] theorem State.takeHead_mgmt (s : State) : (s.takeHead).mgmt = s.mgmt := rfl
@[simp] theorem State.takeHead_pending (s : State) : (s.takeHead).pending = s.pending := rfl
@[simp] theorem State.takeHead_eng (s : State) (c : Circuit) :
    (s.takeHead).eng c = s.eng c := rfl

/-! ### deliver -/

@[simp] theorem State.deliver_powered (s : State) (pub : Circuit → Option Publication) : (s.deliver pub).powered = s.powered := rfl
@[simp] theorem State.deliver_part (s : State) (pub : Circuit → Option Publication) : (s.deliver pub).part = s.part := rfl
@[simp] theorem State.deliver_line (s : State) (pub : Circuit → Option Publication) : (s.deliver pub).line = s.line := rfl
@[simp] theorem State.deliver_route (s : State) (pub : Circuit → Option Publication) : (s.deliver pub).route = s.route := rfl
@[simp] theorem State.deliver_claims (s : State) (pub : Circuit → Option Publication) :
    (s.deliver pub).claims = { s.claims with circuits := mapTable (fun c t => t.held (pub c)) s.claims.circuits } := rfl
@[simp] theorem State.deliver_player (s : State) (pub : Circuit → Option Publication) : (s.deliver pub).player = s.player := rfl
@[simp] theorem State.deliver_cues (s : State) (pub : Circuit → Option Publication) : (s.deliver pub).cues = s.cues := rfl
@[simp] theorem State.deliver_loop (s : State) (pub : Circuit → Option Publication) : (s.deliver pub).loop = s.loop := rfl
@[simp] theorem State.deliver_feedback (s : State) (pub : Circuit → Option Publication) : (s.deliver pub).feedback = s.feedback := rfl
@[simp] theorem State.deliver_store (s : State) (pub : Circuit → Option Publication) : (s.deliver pub).store = s.store := rfl
@[simp] theorem State.deliver_mgmt (s : State) (pub : Circuit → Option Publication) : (s.deliver pub).mgmt = s.mgmt := rfl
@[simp] theorem State.deliver_pending (s : State) (pub : Circuit → Option Publication) : (s.deliver pub).pending = s.pending := rfl

/-! ### enter -/

@[simp] theorem State.enter_powered (s : State) (which : Circuit → Bool) (fade : Nat) : (s.enter which fade).powered = s.powered := rfl
@[simp] theorem State.enter_part (s : State) (which : Circuit → Bool) (fade : Nat) : (s.enter which fade).part = s.part := rfl
@[simp] theorem State.enter_line (s : State) (which : Circuit → Bool) (fade : Nat) : (s.enter which fade).line = s.line := rfl
@[simp] theorem State.enter_route (s : State) (which : Circuit → Bool) (fade : Nat) : (s.enter which fade).route = s.route := rfl
@[simp] theorem State.enter_player (s : State) (which : Circuit → Bool) (fade : Nat) : (s.enter which fade).player = s.player := rfl
@[simp] theorem State.enter_cues (s : State) (which : Circuit → Bool) (fade : Nat) : (s.enter which fade).cues = s.cues := rfl
@[simp] theorem State.enter_engine (s : State) (which : Circuit → Bool) (fade : Nat) : (s.enter which fade).engine = s.engine := rfl
@[simp] theorem State.enter_loop (s : State) (which : Circuit → Bool) (fade : Nat) : (s.enter which fade).loop = s.loop := rfl
@[simp] theorem State.enter_feedback (s : State) (which : Circuit → Bool) (fade : Nat) : (s.enter which fade).feedback = s.feedback := rfl
@[simp] theorem State.enter_store (s : State) (which : Circuit → Bool) (fade : Nat) : (s.enter which fade).store = s.store := rfl
@[simp] theorem State.enter_mgmt (s : State) (which : Circuit → Bool) (fade : Nat) : (s.enter which fade).mgmt = s.mgmt := rfl
@[simp] theorem State.enter_pending (s : State) (which : Circuit → Bool) (fade : Nat) : (s.enter which fade).pending = s.pending := rfl
@[simp] theorem State.enter_eng (s : State) (which : Circuit → Bool) (fade : Nat) (c : Circuit) :
    (s.enter which fade).eng c = s.eng c := rfl

/-! ### emptySet -/

@[simp] theorem State.emptySet_powered (s : State) : (s.emptySet).powered = s.powered := rfl
@[simp] theorem State.emptySet_part (s : State) : (s.emptySet).part = s.part := rfl
@[simp] theorem State.emptySet_line (s : State) : (s.emptySet).line = s.line := rfl
@[simp] theorem State.emptySet_route (s : State) : (s.emptySet).route = s.route := rfl
@[simp] theorem State.emptySet_claims (s : State) :
    (s.emptySet).claims = { s.claims with
      openSet := none
      circuits := mapTable (fun _ t => { t with entry := none }) s.claims.circuits } := rfl
@[simp] theorem State.emptySet_player (s : State) : (s.emptySet).player = s.player := rfl
@[simp] theorem State.emptySet_cues (s : State) : (s.emptySet).cues = s.cues := rfl
@[simp] theorem State.emptySet_engine (s : State) : (s.emptySet).engine = s.engine := rfl
@[simp] theorem State.emptySet_loop (s : State) : (s.emptySet).loop = s.loop := rfl
@[simp] theorem State.emptySet_feedback (s : State) : (s.emptySet).feedback = s.feedback := rfl
@[simp] theorem State.emptySet_store (s : State) : (s.emptySet).store = s.store := rfl
@[simp] theorem State.emptySet_mgmt (s : State) : (s.emptySet).mgmt = s.mgmt := rfl
@[simp] theorem State.emptySet_pending (s : State) : (s.emptySet).pending = s.pending := rfl
@[simp] theorem State.emptySet_eng (s : State) (c : Circuit) :
    (s.emptySet).eng c = s.eng c := rfl

/-! ### removeWhere -/

@[simp] theorem State.removeWhere_powered (s : State) (gone : Circuit → Claim → Bool) : (s.removeWhere gone).powered = s.powered := rfl
@[simp] theorem State.removeWhere_part (s : State) (gone : Circuit → Claim → Bool) : (s.removeWhere gone).part = s.part := rfl
@[simp] theorem State.removeWhere_line (s : State) (gone : Circuit → Claim → Bool) : (s.removeWhere gone).line = s.line := rfl
@[simp] theorem State.removeWhere_route (s : State) (gone : Circuit → Claim → Bool) : (s.removeWhere gone).route = s.route := rfl
@[simp] theorem State.removeWhere_claims (s : State) (gone : Circuit → Claim → Bool) :
    (s.removeWhere gone).claims = { s.claims with
      poolFree := s.claims.poolFree + s.removedCount gone
      circuits := mapTable (fun c t => t.without (gone c)) s.claims.circuits } := rfl
@[simp] theorem State.removeWhere_player (s : State) (gone : Circuit → Claim → Bool) : (s.removeWhere gone).player = s.player := rfl
@[simp] theorem State.removeWhere_cues (s : State) (gone : Circuit → Claim → Bool) : (s.removeWhere gone).cues = s.cues := rfl
@[simp] theorem State.removeWhere_engine (s : State) (gone : Circuit → Claim → Bool) : (s.removeWhere gone).engine = s.engine := rfl
@[simp] theorem State.removeWhere_loop (s : State) (gone : Circuit → Claim → Bool) : (s.removeWhere gone).loop = s.loop := rfl
@[simp] theorem State.removeWhere_feedback (s : State) (gone : Circuit → Claim → Bool) : (s.removeWhere gone).feedback = s.feedback := rfl
@[simp] theorem State.removeWhere_store (s : State) (gone : Circuit → Claim → Bool) : (s.removeWhere gone).store = s.store := rfl
@[simp] theorem State.removeWhere_mgmt (s : State) (gone : Circuit → Claim → Bool) : (s.removeWhere gone).mgmt = s.mgmt := rfl
@[simp] theorem State.removeWhere_pending (s : State) (gone : Circuit → Claim → Bool) : (s.removeWhere gone).pending = s.pending := rfl
@[simp] theorem State.removeWhere_eng (s : State) (gone : Circuit → Claim → Bool) (c : Circuit) :
    (s.removeWhere gone).eng c = s.eng c := rfl

/-! ### writeSlots -/

@[simp] theorem State.writeSlots_powered (s : State) (k : Slot) (w : Circuit → Option (Option Nat)) :
    (s.writeSlots k w).powered = s.powered := rfl
@[simp] theorem State.writeSlots_part (s : State) (k : Slot) (w : Circuit → Option (Option Nat)) : (s.writeSlots k w).part = s.part := rfl
@[simp] theorem State.writeSlots_line (s : State) (k : Slot) (w : Circuit → Option (Option Nat)) : (s.writeSlots k w).line = s.line := rfl
@[simp] theorem State.writeSlots_route (s : State) (k : Slot) (w : Circuit → Option (Option Nat)) :
    (s.writeSlots k w).route = s.route := rfl
@[simp] theorem State.writeSlots_player (s : State) (k : Slot) (w : Circuit → Option (Option Nat)) :
    (s.writeSlots k w).player = s.player := rfl
@[simp] theorem State.writeSlots_cues (s : State) (k : Slot) (w : Circuit → Option (Option Nat)) : (s.writeSlots k w).cues = s.cues := rfl
@[simp] theorem State.writeSlots_engine (s : State) (k : Slot) (w : Circuit → Option (Option Nat)) :
    (s.writeSlots k w).engine = s.engine := rfl
@[simp] theorem State.writeSlots_loop (s : State) (k : Slot) (w : Circuit → Option (Option Nat)) : (s.writeSlots k w).loop = s.loop := rfl
@[simp] theorem State.writeSlots_feedback (s : State) (k : Slot) (w : Circuit → Option (Option Nat)) :
    (s.writeSlots k w).feedback = s.feedback := rfl
@[simp] theorem State.writeSlots_store (s : State) (k : Slot) (w : Circuit → Option (Option Nat)) :
    (s.writeSlots k w).store = s.store := rfl
@[simp] theorem State.writeSlots_mgmt (s : State) (k : Slot) (w : Circuit → Option (Option Nat)) : (s.writeSlots k w).mgmt = s.mgmt := rfl
@[simp] theorem State.writeSlots_pending (s : State) (k : Slot) (w : Circuit → Option (Option Nat)) :
    (s.writeSlots k w).pending = s.pending := rfl
@[simp] theorem State.writeSlots_eng (s : State) (k : Slot) (w : Circuit → Option (Option Nat)) (c : Circuit) :
    (s.writeSlots k w).eng c = s.eng c := rfl

/-! ### closeSet -/

@[simp] theorem State.closeSet_powered (s : State) : (s.closeSet).powered = s.powered := rfl
@[simp] theorem State.closeSet_part (s : State) : (s.closeSet).part = s.part := rfl
@[simp] theorem State.closeSet_line (s : State) : (s.closeSet).line = s.line := rfl
@[simp] theorem State.closeSet_route (s : State) : (s.closeSet).route = s.route := rfl
@[simp] theorem State.closeSet_player (s : State) : (s.closeSet).player = s.player := rfl
@[simp] theorem State.closeSet_cues (s : State) : (s.closeSet).cues = s.cues := rfl
@[simp] theorem State.closeSet_loop (s : State) : (s.closeSet).loop = s.loop := rfl
@[simp] theorem State.closeSet_feedback (s : State) : (s.closeSet).feedback = s.feedback := rfl
@[simp] theorem State.closeSet_store (s : State) : (s.closeSet).store = s.store := rfl
@[simp] theorem State.closeSet_mgmt (s : State) : (s.closeSet).mgmt = s.mgmt := rfl
@[simp] theorem State.closeSet_pending (s : State) : (s.closeSet).pending = s.pending := rfl

/-! ### safetyWrite -/

@[simp] theorem State.safetyWrite_powered (s : State) (k : Slot) (w : Circuit → Option (Option Nat)) (fade : Nat) :
    (s.safetyWrite k w fade).powered = s.powered := rfl
@[simp] theorem State.safetyWrite_part (s : State) (k : Slot) (w : Circuit → Option (Option Nat)) (fade : Nat) :
    (s.safetyWrite k w fade).part = s.part := rfl
@[simp] theorem State.safetyWrite_line (s : State) (k : Slot) (w : Circuit → Option (Option Nat)) (fade : Nat) :
    (s.safetyWrite k w fade).line = s.line := rfl
@[simp] theorem State.safetyWrite_route (s : State) (k : Slot) (w : Circuit → Option (Option Nat)) (fade : Nat) :
    (s.safetyWrite k w fade).route = s.route := rfl
@[simp] theorem State.safetyWrite_player (s : State) (k : Slot) (w : Circuit → Option (Option Nat)) (fade : Nat) :
    (s.safetyWrite k w fade).player = s.player := rfl
@[simp] theorem State.safetyWrite_cues (s : State) (k : Slot) (w : Circuit → Option (Option Nat)) (fade : Nat) :
    (s.safetyWrite k w fade).cues = s.cues := rfl
@[simp] theorem State.safetyWrite_loop (s : State) (k : Slot) (w : Circuit → Option (Option Nat)) (fade : Nat) :
    (s.safetyWrite k w fade).loop = s.loop := rfl
@[simp] theorem State.safetyWrite_feedback (s : State) (k : Slot) (w : Circuit → Option (Option Nat)) (fade : Nat) :
    (s.safetyWrite k w fade).feedback = s.feedback := rfl
@[simp] theorem State.safetyWrite_store (s : State) (k : Slot) (w : Circuit → Option (Option Nat)) (fade : Nat) :
    (s.safetyWrite k w fade).store = s.store := rfl
@[simp] theorem State.safetyWrite_mgmt (s : State) (k : Slot) (w : Circuit → Option (Option Nat)) (fade : Nat) :
    (s.safetyWrite k w fade).mgmt = s.mgmt := rfl
@[simp] theorem State.safetyWrite_pending (s : State) (k : Slot) (w : Circuit → Option (Option Nat)) (fade : Nat) :
    (s.safetyWrite k w fade).pending = s.pending := rfl

/-! ### setEgress -/

@[simp] theorem State.setEgress_powered (s : State) (b : Bool) : (s.setEgress b).powered = s.powered := rfl
@[simp] theorem State.setEgress_part (s : State) (b : Bool) : (s.setEgress b).part = s.part := rfl
@[simp] theorem State.setEgress_line (s : State) (b : Bool) : (s.setEgress b).line = s.line := rfl
@[simp] theorem State.setEgress_route (s : State) (b : Bool) : (s.setEgress b).route = s.route := rfl
@[simp] theorem State.setEgress_claims (s : State) (b : Bool) :
    (s.setEgress b).claims = { s.claims with egressAsserted := b } := rfl
@[simp] theorem State.setEgress_player (s : State) (b : Bool) : (s.setEgress b).player = s.player := rfl
@[simp] theorem State.setEgress_cues (s : State) (b : Bool) : (s.setEgress b).cues = s.cues := rfl
@[simp] theorem State.setEgress_engine (s : State) (b : Bool) : (s.setEgress b).engine = s.engine := rfl
@[simp] theorem State.setEgress_loop (s : State) (b : Bool) : (s.setEgress b).loop = s.loop := rfl
@[simp] theorem State.setEgress_feedback (s : State) (b : Bool) : (s.setEgress b).feedback = s.feedback := rfl
@[simp] theorem State.setEgress_store (s : State) (b : Bool) : (s.setEgress b).store = s.store := rfl
@[simp] theorem State.setEgress_mgmt (s : State) (b : Bool) : (s.setEgress b).mgmt = s.mgmt := rfl
@[simp] theorem State.setEgress_pending (s : State) (b : Bool) : (s.setEgress b).pending = s.pending := rfl
@[simp] theorem State.setEgress_eng (s : State) (b : Bool) (c : Circuit) :
    (s.setEgress b).eng c = s.eng c := rfl

/-! ### countTimers -/

@[simp] theorem State.countTimers_powered (s : State) : (s.countTimers).powered = s.powered := rfl
@[simp] theorem State.countTimers_part (s : State) : (s.countTimers).part = s.part := rfl
@[simp] theorem State.countTimers_line (s : State) : (s.countTimers).line = s.line := rfl
@[simp] theorem State.countTimers_route (s : State) : (s.countTimers).route = s.route := rfl
@[simp] theorem State.countTimers_player (s : State) : (s.countTimers).player = s.player := rfl
@[simp] theorem State.countTimers_cues (s : State) : (s.countTimers).cues = s.cues := rfl
@[simp] theorem State.countTimers_engine (s : State) : (s.countTimers).engine = s.engine := rfl
@[simp] theorem State.countTimers_loop (s : State) : (s.countTimers).loop = s.loop := rfl
@[simp] theorem State.countTimers_feedback (s : State) : (s.countTimers).feedback = s.feedback := rfl
@[simp] theorem State.countTimers_store (s : State) : (s.countTimers).store = s.store := rfl
@[simp] theorem State.countTimers_mgmt (s : State) : (s.countTimers).mgmt = s.mgmt := rfl
@[simp] theorem State.countTimers_pending (s : State) : (s.countTimers).pending = s.pending := rfl
@[simp] theorem State.countTimers_eng (s : State) (c : Circuit) :
    (s.countTimers).eng c = s.eng c := rfl

/-! ### setActive -/

@[simp] theorem State.setActive_powered (s : State) (n : Option SceneNo) : (s.setActive n).powered = s.powered := rfl
@[simp] theorem State.setActive_part (s : State) (n : Option SceneNo) : (s.setActive n).part = s.part := rfl
@[simp] theorem State.setActive_line (s : State) (n : Option SceneNo) : (s.setActive n).line = s.line := rfl
@[simp] theorem State.setActive_route (s : State) (n : Option SceneNo) : (s.setActive n).route = s.route := rfl
@[simp] theorem State.setActive_claims (s : State) (n : Option SceneNo) : (s.setActive n).claims = s.claims := rfl
@[simp] theorem State.setActive_player (s : State) (n : Option SceneNo) :
    (s.setActive n).player = { s.player with active := n } := rfl
@[simp] theorem State.setActive_cues (s : State) (n : Option SceneNo) : (s.setActive n).cues = s.cues := rfl
@[simp] theorem State.setActive_engine (s : State) (n : Option SceneNo) : (s.setActive n).engine = s.engine := rfl
@[simp] theorem State.setActive_loop (s : State) (n : Option SceneNo) : (s.setActive n).loop = s.loop := rfl
@[simp] theorem State.setActive_feedback (s : State) (n : Option SceneNo) : (s.setActive n).feedback = s.feedback := rfl
@[simp] theorem State.setActive_store (s : State) (n : Option SceneNo) : (s.setActive n).store = s.store := rfl
@[simp] theorem State.setActive_mgmt (s : State) (n : Option SceneNo) : (s.setActive n).mgmt = s.mgmt := rfl
@[simp] theorem State.setActive_pending (s : State) (n : Option SceneNo) : (s.setActive n).pending = s.pending := rfl
@[simp] theorem State.setActive_circ (s : State) (n : Option SceneNo) (c : Circuit) :
    (s.setActive n).circ c = s.circ c := rfl
@[simp] theorem State.setActive_eng (s : State) (n : Option SceneNo) (c : Circuit) :
    (s.setActive n).eng c = s.eng c := rfl

/-! ### setScene -/

@[simp] theorem State.setScene_powered (s : State) (n : SceneNo) (r : SceneRecord) : (s.setScene n r).powered = s.powered := rfl
@[simp] theorem State.setScene_part (s : State) (n : SceneNo) (r : SceneRecord) : (s.setScene n r).part = s.part := rfl
@[simp] theorem State.setScene_line (s : State) (n : SceneNo) (r : SceneRecord) : (s.setScene n r).line = s.line := rfl
@[simp] theorem State.setScene_route (s : State) (n : SceneNo) (r : SceneRecord) : (s.setScene n r).route = s.route := rfl
@[simp] theorem State.setScene_claims (s : State) (n : SceneNo) (r : SceneRecord) : (s.setScene n r).claims = s.claims := rfl
@[simp] theorem State.setScene_player (s : State) (n : SceneNo) (r : SceneRecord) :
    (s.setScene n r).player = { s.player with scenes := s.player.scenes.set n r } := rfl
@[simp] theorem State.setScene_cues (s : State) (n : SceneNo) (r : SceneRecord) : (s.setScene n r).cues = s.cues := rfl
@[simp] theorem State.setScene_engine (s : State) (n : SceneNo) (r : SceneRecord) : (s.setScene n r).engine = s.engine := rfl
@[simp] theorem State.setScene_loop (s : State) (n : SceneNo) (r : SceneRecord) : (s.setScene n r).loop = s.loop := rfl
@[simp] theorem State.setScene_feedback (s : State) (n : SceneNo) (r : SceneRecord) : (s.setScene n r).feedback = s.feedback := rfl
@[simp] theorem State.setScene_store (s : State) (n : SceneNo) (r : SceneRecord) : (s.setScene n r).store = s.store := rfl
@[simp] theorem State.setScene_mgmt (s : State) (n : SceneNo) (r : SceneRecord) : (s.setScene n r).mgmt = s.mgmt := rfl
@[simp] theorem State.setScene_pending (s : State) (n : SceneNo) (r : SceneRecord) : (s.setScene n r).pending = s.pending := rfl
@[simp] theorem State.setScene_circ (s : State) (n : SceneNo) (r : SceneRecord) (c : Circuit) :
    (s.setScene n r).circ c = s.circ c := rfl
@[simp] theorem State.setScene_eng (s : State) (n : SceneNo) (r : SceneRecord) (c : Circuit) :
    (s.setScene n r).eng c = s.eng c := rfl

/-! ### setPendings -/

@[simp] theorem State.setPendings_powered (s : State) (l : List Pending) : (s.setPendings l).powered = s.powered := rfl
@[simp] theorem State.setPendings_part (s : State) (l : List Pending) : (s.setPendings l).part = s.part := rfl
@[simp] theorem State.setPendings_line (s : State) (l : List Pending) : (s.setPendings l).line = s.line := rfl
@[simp] theorem State.setPendings_route (s : State) (l : List Pending) : (s.setPendings l).route = s.route := rfl
@[simp] theorem State.setPendings_claims (s : State) (l : List Pending) : (s.setPendings l).claims = s.claims := rfl
@[simp] theorem State.setPendings_player (s : State) (l : List Pending) : (s.setPendings l).player = s.player := rfl
@[simp] theorem State.setPendings_cues (s : State) (l : List Pending) :
    (s.setPendings l).cues = { s.cues with pendings := l } := rfl
@[simp] theorem State.setPendings_engine (s : State) (l : List Pending) : (s.setPendings l).engine = s.engine := rfl
@[simp] theorem State.setPendings_loop (s : State) (l : List Pending) : (s.setPendings l).loop = s.loop := rfl
@[simp] theorem State.setPendings_feedback (s : State) (l : List Pending) : (s.setPendings l).feedback = s.feedback := rfl
@[simp] theorem State.setPendings_store (s : State) (l : List Pending) : (s.setPendings l).store = s.store := rfl
@[simp] theorem State.setPendings_mgmt (s : State) (l : List Pending) : (s.setPendings l).mgmt = s.mgmt := rfl
@[simp] theorem State.setPendings_pending (s : State) (l : List Pending) : (s.setPendings l).pending = s.pending := rfl
@[simp] theorem State.setPendings_circ (s : State) (l : List Pending) (c : Circuit) :
    (s.setPendings l).circ c = s.circ c := rfl
@[simp] theorem State.setPendings_eng (s : State) (l : List Pending) (c : Circuit) :
    (s.setPendings l).eng c = s.eng c := rfl

/-! ### setRoster -/

@[simp] theorem State.setRoster_powered (s : State) (l : List RosterEntry) : (s.setRoster l).powered = s.powered := rfl
@[simp] theorem State.setRoster_part (s : State) (l : List RosterEntry) : (s.setRoster l).part = s.part := rfl
@[simp] theorem State.setRoster_line (s : State) (l : List RosterEntry) :
    (s.setRoster l).line = { s.line with roster := l } := rfl
@[simp] theorem State.setRoster_route (s : State) (l : List RosterEntry) : (s.setRoster l).route = s.route := rfl
@[simp] theorem State.setRoster_claims (s : State) (l : List RosterEntry) : (s.setRoster l).claims = s.claims := rfl
@[simp] theorem State.setRoster_player (s : State) (l : List RosterEntry) : (s.setRoster l).player = s.player := rfl
@[simp] theorem State.setRoster_cues (s : State) (l : List RosterEntry) : (s.setRoster l).cues = s.cues := rfl
@[simp] theorem State.setRoster_engine (s : State) (l : List RosterEntry) : (s.setRoster l).engine = s.engine := rfl
@[simp] theorem State.setRoster_loop (s : State) (l : List RosterEntry) : (s.setRoster l).loop = s.loop := rfl
@[simp] theorem State.setRoster_feedback (s : State) (l : List RosterEntry) : (s.setRoster l).feedback = s.feedback := rfl
@[simp] theorem State.setRoster_store (s : State) (l : List RosterEntry) : (s.setRoster l).store = s.store := rfl
@[simp] theorem State.setRoster_mgmt (s : State) (l : List RosterEntry) : (s.setRoster l).mgmt = s.mgmt := rfl
@[simp] theorem State.setRoster_pending (s : State) (l : List RosterEntry) : (s.setRoster l).pending = s.pending := rfl
@[simp] theorem State.setRoster_circ (s : State) (l : List RosterEntry) (c : Circuit) :
    (s.setRoster l).circ c = s.circ c := rfl
@[simp] theorem State.setRoster_eng (s : State) (l : List RosterEntry) (c : Circuit) :
    (s.setRoster l).eng c = s.eng c := rfl

/-! ### dropShots -/

@[simp] theorem State.dropShots_powered (s : State) (n k : Nat) : (s.dropShots n k).powered = s.powered := rfl
@[simp] theorem State.dropShots_part (s : State) (n k : Nat) : (s.dropShots n k).part = s.part := rfl
@[simp] theorem State.dropShots_line (s : State) (n k : Nat) : (s.dropShots n k).line = s.line := rfl
@[simp] theorem State.dropShots_route (s : State) (n k : Nat) : (s.dropShots n k).route = s.route := rfl
@[simp] theorem State.dropShots_claims (s : State) (n k : Nat) : (s.dropShots n k).claims = s.claims := rfl
@[simp] theorem State.dropShots_player (s : State) (n k : Nat) : (s.dropShots n k).player = s.player := rfl
@[simp] theorem State.dropShots_cues (s : State) (n k : Nat) : (s.dropShots n k).cues = s.cues := rfl
@[simp] theorem State.dropShots_engine (s : State) (n k : Nat) : (s.dropShots n k).engine = s.engine := rfl
@[simp] theorem State.dropShots_loop (s : State) (n k : Nat) : (s.dropShots n k).loop = s.loop := rfl
@[simp] theorem State.dropShots_store (s : State) (n k : Nat) : (s.dropShots n k).store = s.store := rfl
@[simp] theorem State.dropShots_mgmt (s : State) (n k : Nat) : (s.dropShots n k).mgmt = s.mgmt := rfl
@[simp] theorem State.dropShots_pending (s : State) (n k : Nat) : (s.dropShots n k).pending = s.pending := rfl
@[simp] theorem State.dropShots_circ (s : State) (n k : Nat) (c : Circuit) :
    (s.dropShots n k).circ c = s.circ c := rfl
@[simp] theorem State.dropShots_eng (s : State) (n k : Nat) (c : Circuit) :
    (s.dropShots n k).eng c = s.eng c := rfl

/-! ### dropFeedback -/

@[simp] theorem State.dropFeedback_powered (s : State) (n : Nat) : (s.dropFeedback n).powered = s.powered := rfl
@[simp] theorem State.dropFeedback_part (s : State) (n : Nat) : (s.dropFeedback n).part = s.part := rfl
@[simp] theorem State.dropFeedback_line (s : State) (n : Nat) : (s.dropFeedback n).line = s.line := rfl
@[simp] theorem State.dropFeedback_route (s : State) (n : Nat) : (s.dropFeedback n).route = s.route := rfl
@[simp] theorem State.dropFeedback_claims (s : State) (n : Nat) : (s.dropFeedback n).claims = s.claims := rfl
@[simp] theorem State.dropFeedback_player (s : State) (n : Nat) : (s.dropFeedback n).player = s.player := rfl
@[simp] theorem State.dropFeedback_cues (s : State) (n : Nat) : (s.dropFeedback n).cues = s.cues := rfl
@[simp] theorem State.dropFeedback_engine (s : State) (n : Nat) : (s.dropFeedback n).engine = s.engine := rfl
@[simp] theorem State.dropFeedback_loop (s : State) (n : Nat) : (s.dropFeedback n).loop = s.loop := rfl
@[simp] theorem State.dropFeedback_store (s : State) (n : Nat) : (s.dropFeedback n).store = s.store := rfl
@[simp] theorem State.dropFeedback_mgmt (s : State) (n : Nat) : (s.dropFeedback n).mgmt = s.mgmt := rfl
@[simp] theorem State.dropFeedback_pending (s : State) (n : Nat) : (s.dropFeedback n).pending = s.pending := rfl
@[simp] theorem State.dropFeedback_circ (s : State) (n : Nat) (c : Circuit) :
    (s.dropFeedback n).circ c = s.circ c := rfl
@[simp] theorem State.dropFeedback_eng (s : State) (n : Nat) (c : Circuit) :
    (s.dropFeedback n).eng c = s.eng c := rfl

/-! ### takeShots -/

@[simp] theorem State.takeShots_powered (s : State) (n k : Nat) : (s.takeShots n k).powered = s.powered := rfl
@[simp] theorem State.takeShots_part (s : State) (n k : Nat) : (s.takeShots n k).part = s.part := rfl
@[simp] theorem State.takeShots_line (s : State) (n k : Nat) : (s.takeShots n k).line = s.line := rfl
@[simp] theorem State.takeShots_route (s : State) (n k : Nat) : (s.takeShots n k).route = s.route := rfl
@[simp] theorem State.takeShots_claims (s : State) (n k : Nat) : (s.takeShots n k).claims = s.claims := rfl
@[simp] theorem State.takeShots_player (s : State) (n k : Nat) : (s.takeShots n k).player = s.player := rfl
@[simp] theorem State.takeShots_cues (s : State) (n k : Nat) : (s.takeShots n k).cues = s.cues := rfl
@[simp] theorem State.takeShots_engine (s : State) (n k : Nat) : (s.takeShots n k).engine = s.engine := rfl
@[simp] theorem State.takeShots_loop (s : State) (n k : Nat) : (s.takeShots n k).loop = s.loop := rfl
@[simp] theorem State.takeShots_store (s : State) (n k : Nat) : (s.takeShots n k).store = s.store := rfl
@[simp] theorem State.takeShots_mgmt (s : State) (n k : Nat) : (s.takeShots n k).mgmt = s.mgmt := rfl
@[simp] theorem State.takeShots_pending (s : State) (n k : Nat) : (s.takeShots n k).pending = s.pending := rfl
@[simp] theorem State.takeShots_circ (s : State) (n k : Nat) (c : Circuit) :
    (s.takeShots n k).circ c = s.circ c := rfl
@[simp] theorem State.takeShots_eng (s : State) (n k : Nat) (c : Circuit) :
    (s.takeShots n k).eng c = s.eng c := rfl

/-! ### setWindow -/

@[simp] theorem State.setWindow_powered (s : State) (i : WindowIndex) (w : Window) : (s.setWindow i w).powered = s.powered := rfl
@[simp] theorem State.setWindow_part (s : State) (i : WindowIndex) (w : Window) : (s.setWindow i w).part = s.part := rfl
@[simp] theorem State.setWindow_line (s : State) (i : WindowIndex) (w : Window) : (s.setWindow i w).line = s.line := rfl
@[simp] theorem State.setWindow_route (s : State) (i : WindowIndex) (w : Window) :
    (s.setWindow i w).route = { s.route with windows := s.route.windows.set i w } := rfl
@[simp] theorem State.setWindow_claims (s : State) (i : WindowIndex) (w : Window) : (s.setWindow i w).claims = s.claims := rfl
@[simp] theorem State.setWindow_player (s : State) (i : WindowIndex) (w : Window) : (s.setWindow i w).player = s.player := rfl
@[simp] theorem State.setWindow_cues (s : State) (i : WindowIndex) (w : Window) : (s.setWindow i w).cues = s.cues := rfl
@[simp] theorem State.setWindow_engine (s : State) (i : WindowIndex) (w : Window) : (s.setWindow i w).engine = s.engine := rfl
@[simp] theorem State.setWindow_loop (s : State) (i : WindowIndex) (w : Window) : (s.setWindow i w).loop = s.loop := rfl
@[simp] theorem State.setWindow_feedback (s : State) (i : WindowIndex) (w : Window) : (s.setWindow i w).feedback = s.feedback := rfl
@[simp] theorem State.setWindow_store (s : State) (i : WindowIndex) (w : Window) : (s.setWindow i w).store = s.store := rfl
@[simp] theorem State.setWindow_mgmt (s : State) (i : WindowIndex) (w : Window) : (s.setWindow i w).mgmt = s.mgmt := rfl
@[simp] theorem State.setWindow_pending (s : State) (i : WindowIndex) (w : Window) : (s.setWindow i w).pending = s.pending := rfl
@[simp] theorem State.setWindow_circ (s : State) (i : WindowIndex) (w : Window) (c : Circuit) :
    (s.setWindow i w).circ c = s.circ c := rfl
@[simp] theorem State.setWindow_eng (s : State) (i : WindowIndex) (w : Window) (c : Circuit) :
    (s.setWindow i w).eng c = s.eng c := rfl

/-! ### setGroup -/

@[simp] theorem State.setGroup_powered (s : State) (g : GroupNo) (l : List Circuit) : (s.setGroup g l).powered = s.powered := rfl
@[simp] theorem State.setGroup_part (s : State) (g : GroupNo) (l : List Circuit) : (s.setGroup g l).part = s.part := rfl
@[simp] theorem State.setGroup_line (s : State) (g : GroupNo) (l : List Circuit) : (s.setGroup g l).line = s.line := rfl
@[simp] theorem State.setGroup_route (s : State) (g : GroupNo) (l : List Circuit) :
    (s.setGroup g l).route = { s.route with groups := s.route.groups.set g l } := rfl
@[simp] theorem State.setGroup_claims (s : State) (g : GroupNo) (l : List Circuit) : (s.setGroup g l).claims = s.claims := rfl
@[simp] theorem State.setGroup_player (s : State) (g : GroupNo) (l : List Circuit) : (s.setGroup g l).player = s.player := rfl
@[simp] theorem State.setGroup_cues (s : State) (g : GroupNo) (l : List Circuit) : (s.setGroup g l).cues = s.cues := rfl
@[simp] theorem State.setGroup_engine (s : State) (g : GroupNo) (l : List Circuit) : (s.setGroup g l).engine = s.engine := rfl
@[simp] theorem State.setGroup_loop (s : State) (g : GroupNo) (l : List Circuit) : (s.setGroup g l).loop = s.loop := rfl
@[simp] theorem State.setGroup_feedback (s : State) (g : GroupNo) (l : List Circuit) : (s.setGroup g l).feedback = s.feedback := rfl
@[simp] theorem State.setGroup_store (s : State) (g : GroupNo) (l : List Circuit) : (s.setGroup g l).store = s.store := rfl
@[simp] theorem State.setGroup_mgmt (s : State) (g : GroupNo) (l : List Circuit) : (s.setGroup g l).mgmt = s.mgmt := rfl
@[simp] theorem State.setGroup_pending (s : State) (g : GroupNo) (l : List Circuit) : (s.setGroup g l).pending = s.pending := rfl
@[simp] theorem State.setGroup_circ (s : State) (g : GroupNo) (l : List Circuit) (c : Circuit) :
    (s.setGroup g l).circ c = s.circ c := rfl
@[simp] theorem State.setGroup_eng (s : State) (g : GroupNo) (l : List Circuit) (c : Circuit) :
    (s.setGroup g l).eng c = s.eng c := rfl

/-! ### setSettings -/

@[simp] theorem State.setSettings_powered (s : State) (t : Settings) : (s.setSettings t).powered = s.powered := rfl
@[simp] theorem State.setSettings_part (s : State) (t : Settings) : (s.setSettings t).part = s.part := rfl
@[simp] theorem State.setSettings_line (s : State) (t : Settings) : (s.setSettings t).line = s.line := rfl
@[simp] theorem State.setSettings_route (s : State) (t : Settings) : (s.setSettings t).route = s.route := rfl
@[simp] theorem State.setSettings_claims (s : State) (t : Settings) : (s.setSettings t).claims = s.claims := rfl
@[simp] theorem State.setSettings_player (s : State) (t : Settings) : (s.setSettings t).player = s.player := rfl
@[simp] theorem State.setSettings_cues (s : State) (t : Settings) : (s.setSettings t).cues = s.cues := rfl
@[simp] theorem State.setSettings_engine (s : State) (t : Settings) : (s.setSettings t).engine = s.engine := rfl
@[simp] theorem State.setSettings_loop (s : State) (t : Settings) : (s.setSettings t).loop = s.loop := rfl
@[simp] theorem State.setSettings_feedback (s : State) (t : Settings) : (s.setSettings t).feedback = s.feedback := rfl
@[simp] theorem State.setSettings_store (s : State) (t : Settings) : (s.setSettings t).store = s.store := rfl
@[simp] theorem State.setSettings_mgmt (s : State) (t : Settings) :
    (s.setSettings t).mgmt = { s.mgmt with settings := t } := rfl
@[simp] theorem State.setSettings_pending (s : State) (t : Settings) : (s.setSettings t).pending = s.pending := rfl
@[simp] theorem State.setSettings_circ (s : State) (t : Settings) (c : Circuit) :
    (s.setSettings t).circ c = s.circ c := rfl
@[simp] theorem State.setSettings_eng (s : State) (t : Settings) (c : Circuit) :
    (s.setSettings t).eng c = s.eng c := rfl

/-! ### storeAttr -/

@[simp] theorem State.storeAttr_powered (s : State) (c : Circuit) (a : Attr) : (s.storeAttr c a).powered = s.powered := rfl
@[simp] theorem State.storeAttr_part (s : State) (c : Circuit) (a : Attr) : (s.storeAttr c a).part = s.part := rfl
@[simp] theorem State.storeAttr_line (s : State) (c : Circuit) (a : Attr) : (s.storeAttr c a).line = s.line := rfl
@[simp] theorem State.storeAttr_route (s : State) (c : Circuit) (a : Attr) : (s.storeAttr c a).route = s.route := rfl
@[simp] theorem State.storeAttr_claims (s : State) (c : Circuit) (a : Attr) : (s.storeAttr c a).claims = s.claims := rfl
@[simp] theorem State.storeAttr_player (s : State) (c : Circuit) (a : Attr) : (s.storeAttr c a).player = s.player := rfl
@[simp] theorem State.storeAttr_cues (s : State) (c : Circuit) (a : Attr) : (s.storeAttr c a).cues = s.cues := rfl
@[simp] theorem State.storeAttr_loop (s : State) (c : Circuit) (a : Attr) : (s.storeAttr c a).loop = s.loop := rfl
@[simp] theorem State.storeAttr_feedback (s : State) (c : Circuit) (a : Attr) : (s.storeAttr c a).feedback = s.feedback := rfl
@[simp] theorem State.storeAttr_store (s : State) (c : Circuit) (a : Attr) : (s.storeAttr c a).store = s.store := rfl
@[simp] theorem State.storeAttr_mgmt (s : State) (c : Circuit) (a : Attr) : (s.storeAttr c a).mgmt = s.mgmt := rfl
@[simp] theorem State.storeAttr_pending (s : State) (c : Circuit) (a : Attr) : (s.storeAttr c a).pending = s.pending := rfl
@[simp] theorem State.storeAttr_circ (s : State) (c : Circuit) (a : Attr) (k : Circuit) :
    (s.storeAttr c a).circ k = s.circ k := rfl

/-! ### writeMaster -/

@[simp] theorem State.writeMaster_powered (s : State) (m : Master) (v : Nat) : (s.writeMaster m v).powered = s.powered := rfl
@[simp] theorem State.writeMaster_part (s : State) (m : Master) (v : Nat) : (s.writeMaster m v).part = s.part := rfl
@[simp] theorem State.writeMaster_line (s : State) (m : Master) (v : Nat) : (s.writeMaster m v).line = s.line := rfl
@[simp] theorem State.writeMaster_route (s : State) (m : Master) (v : Nat) : (s.writeMaster m v).route = s.route := rfl
@[simp] theorem State.writeMaster_claims (s : State) (m : Master) (v : Nat) : (s.writeMaster m v).claims = s.claims := rfl
@[simp] theorem State.writeMaster_player (s : State) (m : Master) (v : Nat) : (s.writeMaster m v).player = s.player := rfl
@[simp] theorem State.writeMaster_cues (s : State) (m : Master) (v : Nat) : (s.writeMaster m v).cues = s.cues := rfl
@[simp] theorem State.writeMaster_loop (s : State) (m : Master) (v : Nat) : (s.writeMaster m v).loop = s.loop := rfl
@[simp] theorem State.writeMaster_feedback (s : State) (m : Master) (v : Nat) : (s.writeMaster m v).feedback = s.feedback := rfl
@[simp] theorem State.writeMaster_store (s : State) (m : Master) (v : Nat) : (s.writeMaster m v).store = s.store := rfl
@[simp] theorem State.writeMaster_mgmt (s : State) (m : Master) (v : Nat) : (s.writeMaster m v).mgmt = s.mgmt := rfl
@[simp] theorem State.writeMaster_pending (s : State) (m : Master) (v : Nat) : (s.writeMaster m v).pending = s.pending := rfl
@[simp] theorem State.writeMaster_circ (s : State) (m : Master) (v : Nat) (c : Circuit) :
    (s.writeMaster m v).circ c = s.circ c := rfl

/-! ### releaseScenes -/

@[simp] theorem State.releaseScenes_powered (s : State) : (s.releaseScenes).powered = s.powered := rfl
@[simp] theorem State.releaseScenes_part (s : State) : (s.releaseScenes).part = s.part := rfl
@[simp] theorem State.releaseScenes_line (s : State) : (s.releaseScenes).line = s.line := rfl
@[simp] theorem State.releaseScenes_route (s : State) : (s.releaseScenes).route = s.route := rfl
@[simp] theorem State.releaseScenes_player (s : State) :
    (s.releaseScenes).player = { s.player with active := none } := rfl
@[simp] theorem State.releaseScenes_cues (s : State) : (s.releaseScenes).cues = s.cues := rfl
@[simp] theorem State.releaseScenes_engine (s : State) : (s.releaseScenes).engine = s.engine := rfl
@[simp] theorem State.releaseScenes_loop (s : State) : (s.releaseScenes).loop = s.loop := rfl
@[simp] theorem State.releaseScenes_feedback (s : State) : (s.releaseScenes).feedback = s.feedback := rfl
@[simp] theorem State.releaseScenes_store (s : State) : (s.releaseScenes).store = s.store := rfl
@[simp] theorem State.releaseScenes_mgmt (s : State) : (s.releaseScenes).mgmt = s.mgmt := rfl
@[simp] theorem State.releaseScenes_pending (s : State) : (s.releaseScenes).pending = s.pending := rfl
@[simp] theorem State.releaseScenes_eng (s : State) (c : Circuit) :
    (s.releaseScenes).eng c = s.eng c := rfl

/-! ### withdrawAbsence -/

@[simp] theorem State.withdrawAbsence_powered (s : State) (n : Nat) : (s.withdrawAbsence n).powered = s.powered := rfl
@[simp] theorem State.withdrawAbsence_part (s : State) (n : Nat) : (s.withdrawAbsence n).part = s.part := rfl
@[simp] theorem State.withdrawAbsence_line (s : State) (n : Nat) : (s.withdrawAbsence n).line = s.line := rfl
@[simp] theorem State.withdrawAbsence_route (s : State) (n : Nat) : (s.withdrawAbsence n).route = s.route := rfl
@[simp] theorem State.withdrawAbsence_claims (s : State) (n : Nat) :
    (s.withdrawAbsence n).claims = { s.claims with order := s.claims.order.filter fun r => !(r == .absence n) } := rfl
@[simp] theorem State.withdrawAbsence_player (s : State) (n : Nat) : (s.withdrawAbsence n).player = s.player := rfl
@[simp] theorem State.withdrawAbsence_cues (s : State) (n : Nat) : (s.withdrawAbsence n).cues = s.cues := rfl
@[simp] theorem State.withdrawAbsence_engine (s : State) (n : Nat) : (s.withdrawAbsence n).engine = s.engine := rfl
@[simp] theorem State.withdrawAbsence_loop (s : State) (n : Nat) : (s.withdrawAbsence n).loop = s.loop := rfl
@[simp] theorem State.withdrawAbsence_feedback (s : State) (n : Nat) : (s.withdrawAbsence n).feedback = s.feedback := rfl
@[simp] theorem State.withdrawAbsence_store (s : State) (n : Nat) : (s.withdrawAbsence n).store = s.store := rfl
@[simp] theorem State.withdrawAbsence_mgmt (s : State) (n : Nat) : (s.withdrawAbsence n).mgmt = s.mgmt := rfl
@[simp] theorem State.withdrawAbsence_pending (s : State) (n : Nat) : (s.withdrawAbsence n).pending = s.pending := rfl
@[simp] theorem State.withdrawAbsence_eng (s : State) (n : Nat) (c : Circuit) :
    (s.withdrawAbsence n).eng c = s.eng c := rfl

end Sys2Proof.Machine
end

