-- ==== Sys2Proof/Laws/Ops.lean ====
section
/-! SUPPORT. One lemma for each shared operation that says what it can do: tables, change sets, placements, removals, safety writes,
outcomes, and the replies of management. -/

namespace Sys2Proof.Machine

/-! ### Tables -/

@[simp] theorem getElem_mapTable_val {n : Nat} {α β : Type} (f : Fin n → α → β) (v : Vector α n) (i : Nat) (h : i < n) :
    (mapTable f v)[i] = f ⟨i, h⟩ v[i] := by
  unfold mapTable; simp

theorem getElem_mapTable {n : Nat} {α β : Type} (f : Fin n → α → β) (v : Vector α n) (i : Fin n) :
    (mapTable f v)[i] = f i v[i] := by
  simp

@[simp] theorem mem_allCircuits (c : Circuit) : c ∈ allCircuits := by
  unfold allCircuits; exact List.mem_finRange c

theorem allCircuits_sorted : allCircuits.Pairwise (· < ·) := by
  unfold allCircuits; exact List.pairwise_lt_finRange 512

/-- Two tables that agree at every index are equal. -/
theorem table_ext {n : Nat} {α : Type} {v w : Vector α n} (h : ∀ i : Fin n, v[i] = w[i]) : v = w := by
  ext i hi; exact h ⟨i, hi⟩

theorem mapTable_of_fixed {n : Nat} {α : Type} {f : Fin n → α → α} {v : Vector α n} (h : ∀ i, f i v[i] = v[i]) :
    mapTable f v = v :=
  table_ext fun i => by rw [getElem_mapTable, h]

theorem set_same {n : Nat} {α : Type} (v : Vector α n) (i : Fin n) (a : α) : (v.set i a)[i] = a := by simp

theorem set_other {n : Nat} {α : Type} (v : Vector α n) {i j : Fin n} (a : α) (h : j ≠ i) : (v.set i a)[j] = v[j] := by
  have : i.val ≠ j.val := fun e => h (Fin.ext e.symm)
  simp [this]

/-! ### Circuits under the operations -/

theorem State.circ_deliver (s : State) (pub : Circuit → Option Publication) (c : Circuit) :
    (s.deliver pub).circ c = (s.circ c).held (pub c) := by
  simp [State.circ]

theorem State.eng_deliver (s : State) (pub : Circuit → Option Publication) (c : Circuit) :
    (s.deliver pub).eng c =
      match pub c with
      | some p => (s.eng c).published s.engine.masters p
      | none => s.eng c := by
  unfold State.deliver State.eng
  refine (getElem_mapTable _ _ c).trans ?_
  cases pub c <;> rfl

theorem State.circ_enter (s : State) (which : Circuit → Bool) (fade : Nat) (c : Circuit) :
    (s.enter which fade).circ c = if which c then { s.circ c with entry := some fade } else s.circ c := by
  unfold State.enter; simp [State.circ]

theorem State.circ_emptySet (s : State) (c : Circuit) : s.emptySet.circ c = { s.circ c with entry := none } := by
  simp [State.circ]

theorem State.circ_removeWhere (s : State) (gone : Circuit → Claim → Bool) (c : Circuit) :
    (s.removeWhere gone).circ c = (s.circ c).without (gone c) := by
  simp [State.circ]

theorem State.circ_writeSlots (s : State) (k : Slot) (w : Circuit → Option (Option Nat)) (c : Circuit) :
    (s.writeSlots k w).circ c =
      match w c with
      | some content => (s.circ c).setSlot k content
      | none => s.circ c := by
  unfold State.writeSlots State.circ
  refine (getElem_mapTable _ _ c).trans ?_
  cases w c <;> rfl

theorem State.circ_countTimers (s : State) (c : Circuit) :
    s.countTimers.circ c = { s.circ c with claims := (s.circ c).claims.map Claim.counted } := by
  unfold State.countTimers; simp [State.circ]

/-- R64: the close of a set on one circuit. -/
theorem State.circ_closeSet (s : State) (c : Circuit) :
    s.closeSet.circ c = { (s.circ c).held (s.closing c) with entry := none } := by
  unfold State.closeSet; rw [State.circ_emptySet, State.circ_deliver]

theorem State.eng_closeSet (s : State) (c : Circuit) :
    s.closeSet.eng c =
      match s.closing c with
      | some p => (s.eng c).published s.engine.masters p
      | none => s.eng c := by
  unfold State.closeSet; rw [State.emptySet_eng, State.eng_deliver]

@[simp] theorem State.closeSet_order (s : State) : s.closeSet.claims.order = s.claims.order := by
  unfold State.closeSet; simp

@[simp] theorem State.closeSet_openSet (s : State) : s.closeSet.claims.openSet = none := by
  unfold State.closeSet; simp

@[simp] theorem State.closeSet_poolFree (s : State) : s.closeSet.claims.poolFree = s.claims.poolFree := by
  unfold State.closeSet; simp

@[simp] theorem State.closeSet_egressAsserted (s : State) : s.closeSet.claims.egressAsserted = s.claims.egressAsserted := by
  unfold State.closeSet; simp

@[simp] theorem State.closeSet_masters (s : State) : s.closeSet.engine.masters = s.engine.masters := rfl

/-- R64, R68: an empty set closes without a trace. -/
theorem State.closeSet_of_empty {s : State} (h : s.claims.openSet = none) (he : ∀ c : Circuit, (s.circ c).entry = none) :
    s.closeSet = s := by
  have hc : s.closing = fun _ => none := by
    funext c; unfold State.closing; rw [he c]
  have h1 : s.closeSet.claims.circuits = s.claims.circuits := table_ext fun c => by
    have := State.circ_closeSet s c
    rw [hc] at this
    have e := he c
    simp only [State.circ, ClaimCircuit.held] at this e
    rw [this, ← e]
  have h2 : s.closeSet.engine.circuits = s.engine.circuits := table_ext fun c => by
    have := State.eng_closeSet s c
    rw [hc] at this
    exact this
  have h3 : s.closeSet.claims = s.claims := by
    have a := State.closeSet_openSet s
    have b := State.closeSet_poolFree s
    have d := State.closeSet_order s
    have e := State.closeSet_egressAsserted s
    revert a b d e h1
    cases hx : s.closeSet.claims
    cases hy : s.claims
    rw [hy] at h
    simp_all
  have h4 : s.closeSet.engine = s.engine := by
    have a := State.closeSet_masters s
    revert a h2
    cases hx : s.closeSet.engine
    cases hy : s.engine
    simp_all
  calc s.closeSet = { s with claims := s.closeSet.claims, engine := s.closeSet.engine } := rfl
    _ = s := by rw [h3, h4]

/-! ### Placements (R54 to R57) -/

/-- A placement changes nothing but the claims and the flags. -/
theorem State.placeOne_eq (s : State) (c : Circuit) (cl : Claim) :
    s.placeOne c cl =
      { s with
        claims :=
          { s.claims with
            poolFree := if s.placementOn c cl = .added then s.claims.poolFree - 1 else s.claims.poolFree
            circuits := s.claims.circuits.set c ((s.circ c).placed (s.placementOn c cl) cl) }
        mgmt :=
          if s.placementOn c cl = .refusedPool then { s.mgmt with flags := s.mgmt.flags ||| Flag.claimPoolFull.word }
          else s.mgmt } := by
  unfold State.placeOne State.reportIf
  by_cases h : s.placementOn c cl = .refusedPool
  · rw [h]; rfl
  · rw [if_neg h, if_neg (by simpa using h)]

theorem State.circ_placeOne_self (s : State) (c : Circuit) (cl : Claim) :
    (s.placeOne c cl).circ c = (s.circ c).placed (s.placementOn c cl) cl := by
  rw [State.placeOne_eq]; exact set_same _ _ _

theorem State.circ_placeOne_other (s : State) {c k : Circuit} (cl : Claim) (h : k ≠ c) :
    (s.placeOne c cl).circ k = s.circ k := by
  rw [State.placeOne_eq]; exact set_other _ _ h

/-! ### Outcomes (R154) -/

/-- An outcome changes nothing, or the one-shots alone. -/
theorem State.outcome_cases (s : State) (st k : Nat) (ack : Bool) :
    (s.hears st k = false ∧ s.outcome st k ack = s) ∨
    (s.hears st k = true ∧
      s.outcome st k ack =
        { s with
          feedback :=
            { s.feedback with
              shots := s.feedback.shots.filter (fun o => !(o.station == st && o.control == k)) ++
                [{ station := st, control := k, ack := ack }] } }) := by
  unfold State.outcome
  cases h : s.hears st k
  · exact .inl ⟨rfl, if_neg (by simp)⟩
  · exact .inr ⟨rfl, if_pos rfl⟩

theorem State.outcome_shots (s : State) (st k : Nat) (ack : Bool) :
    s.outcome st k ack = { s with feedback := { s.feedback with shots := (s.outcome st k ack).feedback.shots } } := by
  rcases State.outcome_cases s st k ack with ⟨-, h⟩ | ⟨-, h⟩ <;> rw [h]

theorem State.outcome_feedback_only (s : State) (st k : Nat) (ack : Bool) :
    s.outcome st k ack = { s with feedback := (s.outcome st k ack).feedback } := by
  rcases State.outcome_cases s st k ack with ⟨-, h⟩ | ⟨-, h⟩ <;> rw [h]

theorem State.confirm_feedback_only (s : State) (st k : Nat) (l : List Circuit) :
    s.confirm st k l = { s with feedback := (s.confirm st k l).feedback } := by
  have o := State.outcome_feedback_only s st k
  unfold State.confirm
  dsimp only
  repeat' split
  all_goals first | rfl | exact o _

theorem State.settle_feedback_only (s : State) (st k : Nat) (f : FeedbackKind) (refused : Bool) (l : List Circuit) :
    s.settle st k f refused l = { s with feedback := (s.settle st k f refused l).feedback } := by
  unfold State.settle State.accept
  repeat' split
  all_goals first | exact State.outcome_feedback_only _ _ _ _ | exact State.confirm_feedback_only _ _ _ _

theorem State.levelReport_feedback_only (s : State) (g : Segment) (intact : Bool) :
    s.levelReport g intact = { s with feedback := (s.levelReport g intact).feedback } := by
  have aux : ∀ (l : List Confirmation) (s : State),
      State.settleConfirmations l s = { s with feedback := (State.settleConfirmations l s).feedback } := by
    intro l
    induction l with
    | nil => intro s; rfl
    | cons r rest ih =>
      intro s
      have h := ih (s.outcome r.station r.control (!r.failed))
      have o := State.outcome_feedback_only s r.station r.control (!r.failed)
      show State.settleConfirmations rest _ = { s with feedback := (State.settleConfirmations rest _).feedback }
      rw [h]; rw [o]
  unfold State.levelReport
  rw [aux]

theorem State.shotOf_outcome_self {s : State} {st k : Nat} (ack : Bool) (h : s.hears st k = true) :
    (s.outcome st k ack).shotOf st k = some ack := by
  rcases State.outcome_cases s st k ack with ⟨h', -⟩ | ⟨-, e⟩
  · rw [h] at h'; cases h'
  · rw [e]
    unfold State.shotOf
    rw [List.find?_append, List.find?_eq_none.mpr]
    · simp
    · intro o ho; simp at ho; simpa [not_or, imp_iff_not_or] using ho.2

/-! ### Replies (R14, R184) -/

theorem State.entryOf_modifyEntry (s : State) (n m : Nat) (f : RosterEntry → RosterEntry)
    (hf : ∀ e, (f e).station = e.station) :
    (s.modifyEntry n f).entryOf m = (s.entryOf m).map fun e => if e.station = n then f e else e := by
  have key : ∀ l : List RosterEntry,
      (l.map fun e => if e.station = n then f e else e).find? (fun e => e.station == m) =
        (l.find? fun e => e.station == m).map fun e => if e.station = n then f e else e := by
    intro l
    rw [List.find?_map]
    congr 1
    congr 1
    funext e
    by_cases h : e.station = n <;> simp [h, hf]
  exact key _

/-- R184: a request in progress that began in this step and completes: the reply waits, and everything else is as the request's own
work left it. This is the one lemma about replies that the request statements need. -/
theorem State.answered_of_complete {s u : State} {sender tag : Nat} {result : Result} {payload : List Byte}
    (ht : s.takes sender = true) (hr : u.mgmt.requests = s.mgmt.requests ++ [{ station := sender, tag := tag }])
    (hl : u.line.roster = s.line.roster) (hs : u.line.serviceSlot = s.line.serviceSlot) :
    State.Answered sender tag result payload s u (u.complete sender result payload) := by
  have hno : s.tagOf sender = none := by
    unfold State.takes at ht; simp at ht; exact ht.2
  have htag : u.tagOf sender = some tag := by
    unfold State.tagOf at hno ⊢
    rw [hr, List.find?_append]
    simp at hno
    rw [List.find?_eq_none.mpr (by simpa using hno)]; simp
  have hother : ∀ other : Nat, other ≠ sender → u.tagOf other = s.tagOf other := by
    intro other h
    have hne : (sender == other) = false := by simpa using fun e : sender = other => h e.symm
    unfold State.tagOf
    rw [hr, List.find?_append]
    cases hf : s.mgmt.requests.find? (·.station == other) with
    | some r => simp
    | none => simp [hne]
  have hent : ∀ n, u.entryOf n = s.entryOf n := fun n => by unfold State.entryOf; rw [hl]
  have hsender : u.enrolled sender = true ∨ sender = Config.serviceStation := by
    unfold State.takes State.mayManage at ht
    simp only [Bool.and_eq_true, Bool.or_eq_true] at ht
    rcases ht.1.2 with h | h
    · exact .inr (by simpa using h)
    · left
      unfold State.enrolled
      rw [hent]
      revert h
      cases s.entryOf sender <;> simp
  have hbase : ∀ other, u.replyOf other = s.replyOf other := fun n => by unfold State.replyOf; rw [hent, hs]
  unfold State.complete
  rw [htag]
  show State.Answered _ _ _ _ _ _ (u.putReply sender { tag := tag, result := result, payload := payload })
  unfold State.putReply
  by_cases he : u.enrolled sender = true
  · rw [if_pos he]
    obtain ⟨e, hee⟩ : ∃ e, u.entryOf sender = some e := Option.isSome_iff_exists.mp he
    have hst : e.station = sender := by simpa using List.find?_some hee
    have hm : ∀ m, (u.modifyEntry sender fun e => { e with slot := some ⟨tag, result, payload⟩ }).entryOf m =
        (u.entryOf m).map fun e => if e.station = sender then { e with slot := some ⟨tag, result, payload⟩ } else e :=
      fun m => State.entryOf_modifyEntry u sender m _ (fun _ => rfl)
    refine ⟨?_, htag, fun other h => ⟨?_, hother other h⟩, ?_⟩
    · unfold State.replyOf; rw [hm, hee]; simp [hst]
    · rw [← hbase other]
      unfold State.replyOf
      rw [hm]
      cases ho : u.entryOf other with
      | none => rfl
      | some x =>
        have hx : x.station = other := by simpa using List.find?_some ho
        have hxs : ¬x.station = sender := by rw [hx]; exact h
        simp [hxs]
    · have hmap : (u.line.roster.map fun e =>
            if e.station = sender then { e with slot := some ⟨tag, result, payload⟩ } else e).map
            (fun e => { e with slot := none }) = u.line.roster.map fun e => { e with slot := none } := by
        rw [List.map_map]
        apply List.map_congr_left
        intro x _
        by_cases h : x.station = sender <;> simp [h]
      unfold State.withoutReplies State.modifyEntry
      dsimp only
      rw [hmap]
  · have hss := hsender.resolve_left he
    rw [if_neg he, if_pos hss]
    have hen : u.entryOf sender = none := by
      unfold State.enrolled at he; simpa using he
    refine ⟨?_, htag, fun other h => ⟨?_, hother other h⟩, rfl⟩
    · have : State.entryOf sender { u with line := { u.line with serviceSlot := some ⟨tag, result, payload⟩ } } = none := hen
      unfold State.replyOf; rw [this]; simp [hss]
    · rw [← hbase other]
      have he2 : State.entryOf other { u with line := { u.line with serviceSlot := some ⟨tag, result, payload⟩ } } =
          u.entryOf other := rfl
      have hno' : other ≠ Config.serviceStation := by rw [← hss]; exact h
      unfold State.replyOf; rw [he2]; cases u.entryOf other <;> simp [hno']

/-- R182: a request that may not be taken changes nothing. -/
theorem State.takeRequest_of_not_taken {s : State} {sender tag : Nat} {work : State → State} (h : s.takes sender = false) :
    s.takeRequest sender tag work = s := by
  unfold State.takeRequest; rw [h]; rfl

theorem State.takeRequest_of_taken {s : State} {sender tag : Nat} {work : State → State} (h : s.takes sender = true) :
    s.takeRequest sender tag work = work (s.beginRequest sender tag) := by
  unfold State.takeRequest; rw [h]; rfl

/-! ### The arbiter (R67) -/

theorem State.grantable_of_grants {s : State} {r : Request} {rest : List Request} (h : s.Grants r rest) :
    s.grantable = some r := by
  obtain ⟨⟨hp, ho, -⟩, hr⟩ := h
  unfold State.grantable State.active
  rw [hr, ho]
  cases hs : s.part <;> simp_all

end Sys2Proof.Machine
end

