-- ==== Sys2Proof/Laws/Frames.lean ====
section
/-! SUPPORT. What the shared operations leave as it was: work on claims touches the claims and the flags, outcomes the feedback, and
replies the reply slots and the requests in progress. -/

namespace Sys2Proof.Machine

/-- Two states that differ in claims and flags at most. -/
def SameButClaims (s t : State) : Prop :=
  t = { s with claims := t.claims, mgmt := { s.mgmt with flags := t.mgmt.flags } } ∧
  t.claims.order = s.claims.order ∧ t.claims.openSet = s.claims.openSet ∧
  t.claims.egressAsserted = s.claims.egressAsserted

theorem SameButClaims.rfl (s : State) : SameButClaims s s := ⟨by rfl, by rfl, by rfl, by rfl⟩

theorem SameButClaims.trans {s t u : State} (h : SameButClaims s t) (k : SameButClaims t u) : SameButClaims s u := by
  obtain ⟨h1, h2, h3, h4⟩ := h
  obtain ⟨k1, k2, k3, k4⟩ := k
  refine ⟨?_, k2.trans h2, k3.trans h3, k4.trans h4⟩
  rw [k1]
  generalize u.claims = c
  generalize u.mgmt.flags = f
  rw [h1]

theorem State.placeOne_same (s : State) (c : Circuit) (cl : Claim) : SameButClaims s (s.placeOne c cl) := by
  rw [State.placeOne_eq]
  by_cases h : s.placementOn c cl = .refusedPool
  · rw [if_pos h]; exact ⟨by rfl, by rfl, by rfl, by rfl⟩
  · rw [if_neg h]; exact ⟨by rfl, by rfl, by rfl, by rfl⟩

theorem State.placeEach_same (l : List (Circuit × Claim)) (s : State) : SameButClaims s (State.placeEach l s).2 := by
  induction l generalizing s with
  | nil => exact SameButClaims.rfl s
  | cons x rest ih =>
    obtain ⟨c, cl⟩ := x
    exact (State.placeOne_same s c cl).trans (ih _)

theorem State.removeWhere_same (s : State) (gone : Circuit → Claim → Bool) : SameButClaims s (s.removeWhere gone) :=
  ⟨by rfl, by rfl, by rfl, by rfl⟩

theorem State.applyWork_same (s : State) (st k : Nat) (i : WindowIndex) (layer : Layer) (w : ClaimWork) (l : List Circuit) :
    SameButClaims s (s.applyWork st k i layer w l).2 := by
  unfold State.applyWork State.placeOnAll State.removeOnAll
  dsimp only
  repeat' split
  all_goals first
    | exact State.placeEach_same _ _
    | exact State.removeWhere_same _ _
    | exact SameButClaims.rfl _

theorem State.placementPass_same (fade : Nat) (l : List SceneEntry) (s : State) :
    SameButClaims s (State.placementPass fade l s).2 := by
  induction l generalizing s with
  | nil => exact SameButClaims.rfl s
  | cons e rest ih =>
    unfold State.placementPass
    split
    · exact State.placeOne_same _ _ _
    · exact (State.placeOne_same _ _ _).trans (ih _)

theorem State.recallPasses_same (r : SceneRecord) (s : State) : SameButClaims s (s.recallPasses r).2 :=
  (State.removeWhere_same s (outsideScene r)).trans (State.placementPass_same _ _ _)

/-- A safety write touches the circuits of the Claim Table and of the Level Engine alone. -/
theorem State.safetyWrite_eq (s : State) (k : Slot) (w : Circuit → Option (Option Nat)) (fade : Nat) :
    s.safetyWrite k w fade =
      { s with
        claims := { s.claims with circuits := (s.safetyWrite k w fade).claims.circuits }
        engine := { s.engine with circuits := (s.safetyWrite k w fade).engine.circuits } } := by
  rfl

/-- The close of a set touches the circuits of the Claim Table and of the Level Engine, and the open set. -/
theorem State.closeSet_eq (s : State) :
    s.closeSet =
      { s with
        claims := { s.claims with openSet := none, circuits := s.closeSet.claims.circuits }
        engine := { s.engine with circuits := s.closeSet.engine.circuits } } := by
  rfl

theorem State.nackEach_feedback_only (l : List Pending) (s : State) :
    State.nackEach l s = { s with feedback := (State.nackEach l s).feedback } := by
  induction l generalizing s with
  | nil => rfl
  | cons p rest ih =>
    have h := ih (s.outcome p.station p.control false)
    have o := State.outcome_feedback_only s p.station p.control false
    show State.nackEach rest _ = { s with feedback := (State.nackEach rest _).feedback }
    rw [h]; rw [o]

theorem State.settleRecords_feedback_only (pub : List Circuit) (l : List Applied) (s : State) :
    State.settleRecords pub l s = { s with feedback := (State.settleRecords pub l s).feedback } := by
  induction l generalizing s with
  | nil => rfl
  | cons a rest ih =>
    unfold State.settleRecords
    cases a.result with
    | skipped => exact ih s
    | applied refused touched =>
      have o := State.settle_feedback_only s a.record.station a.record.control a.record.feedback refused
        (pub.filter touched.contains)
      dsimp only
      rw [ih]; rw [o]

/-- A reply touches the reply slots and the requests in progress alone. -/
theorem State.complete_eq (s : State) (sender : Nat) (result : Result) (payload : List Byte) :
    s.complete sender result payload =
      { s with
        line := { s.line with
          roster := (s.complete sender result payload).line.roster
          serviceSlot := (s.complete sender result payload).line.serviceSlot }
        mgmt := { s.mgmt with requests := (s.complete sender result payload).mgmt.requests } } := by
  unfold State.complete State.putReply
  repeat' split
  all_goals rfl

/-! ### The records of an answer (R12) -/

/-- A property that the taking of a record and the grant of a claim action keep is kept by any number of takes. -/
theorem State.takeHeads_keeps {P : State → Prop} (grant : ∀ s, P s → P s.claimActionGrant)
    (take : ∀ s, P s → P s.takeEventRecord) : ∀ (n : Nat) (s : State), P s → P (State.takeHeads n s)
  | 0, _, h => h
  | n + 1, s, h => State.takeHeads_keeps grant take n _ (take _ (grant s h))

/-- A property that these keep, and that the offer of a record and the report of a bad one keep, is kept by the records of an answer. -/
theorem State.takeEvents_keeps {P : State → Prop} {station controls : Nat} (grant : ∀ s, P s → P s.claimActionGrant)
    (take : ∀ s, P s → P s.takeEventRecord) (offer : ∀ s e, P s → P (s.offerEvent e))
    (bad : ∀ s, P s → P (s.report .stationFrame)) :
    ∀ (l : List RawEvent) (takes : List Nat) (s : State), P s → P (State.takeEvents station controls takes l s)
  | [], _, _, h => by unfold State.takeEvents; exact h
  | r :: rest, takes, s, h => by
    unfold State.takeEvents
    refine State.takeEvents_keeps grant take offer bad rest _ _ ?_
    have k := State.takeHeads_keeps grant take (takes.headD 0) s h
    unfold State.offerRaw
    cases r.checked station controls with
    | none => exact bad _ k
    | some e => exact offer _ e k

/-- Without takes the records of an answer are offered one after another. -/
theorem State.takeEvents_nil (station controls : Nat) (l : List RawEvent) (s : State) :
    State.takeEvents station controls [] l s = l.foldl (fun u r => u.offerRaw station controls r) s := by
  induction l generalizing s with
  | nil => rfl
  | cons r rest ih => exact ih _

end Sys2Proof.Machine
end

