-- ==== Sys2Proof/Tests/Slice0.lean ====
section
/-! SUPPORT. Tests on fixed values: ill-formed commands refused, the worked examples of spec/ for the commands, and for each statement
with hypotheses a state that meets them. Expected values come from the tables and rules named. -/

namespace Sys2Proof.Tests

open Sys2Proof.Machine

set_option Elab.async false

/-! ### Helpers -/

/-- The state after a command. -/
def after (c : Instr) (s : State) : State :=
  match exec c s with
  | .next t => t
  | .fault _ | .refused _ => s

def entry (station controls : Nat) (privilege : Privilege) (live : Live) (missed : Nat) : RosterEntry :=
  { station := station, controls := controls, privilege := privilege, live := live, missed := missed, slot := none }

/-- A house in RUNNING: station 12 of privilege CONFIG, station 20 and station 37, and the answer window of 250 open. -/
def house : State :=
  { State.reset with
    part := .running
    line :=
      { State.reset.line with
        roster := [entry 12 8 .config .present 0, entry 20 8 .nothing .present 0, entry 37 4 .nothing .present 2]
        phase := .awaiting 250, position := .service, lossTimer := some 20 }
    store := { State.reset.store with valid := true } }

/-- What a circuit holds in the Claim Table, set by hand. -/
def withCircuit (c : Circuit) (t : ClaimCircuit) (s : State) : State :=
  { s with claims := { s.claims with circuits := s.claims.circuits.set c t, poolFree := s.claims.poolFree - t.claims.length } }

/-- What a circuit holds in the Level Engine, set by hand. -/
def withEngine (c : Circuit) (e : EngineCircuit) (s : State) : State :=
  { s with engine := { s.engine with circuits := s.engine.circuits.set c e } }

def withAttr (c : Circuit) (a : Attr) (s : State) : State := withEngine c { s.eng c with attr := a } s

def claim (layer : Layer) (owner : Owner) (window : Option WindowIndex) (kind : ClaimKind) (level fade : Nat) : Claim :=
  { layer := layer, owner := owner, window := window, kind := kind, level := level, fade := fade }

/-- The state with one request waiting. -/
def asked (r : Request) (s : State) : State := { s with claims := { s.claims with order := [r] } }

/-- The state with a request of a station in progress. -/
def inProgress (station tag : Nat) (s : State) : State :=
  { s with mgmt := { s.mgmt with requests := [{ station := station, tag := tag }] } }

def withWindow (i : WindowIndex) (w : Window) (s : State) : State := s.setWindow i w

def withIntake (l : List EventRecord) (s : State) : State := { s with route := { s.route with intake := l } }

def withStore (t : StoreState) (s : State) : State := { s with store := { s.store with state := t } }

/-- The result that waits for a station. -/
def answerTo (station : Nat) (s : State) : Option Result := (s.replyOf station).map (·.result)

/-! ### WellFormed refuses an ill-formed term at each check -/

def windowForm : WindowFields := Window.default.fields
def circuitForm : CircuitFields := Attr.default.fields
def settingsForm : SettingsFields := Settings.default.fields

theorem test_wellFormed_accepts :
    ([Instr.powerOn, .answerReceived { bytes := [2#8] }, .readStatus 250 255, .readEntry 1 0 4 1 511, .enrol 1 0 1 1 0,
      .writeWindow 1 0 0 windowForm, .writeCircuit 1 0 1 circuitForm, .writeSettings 1 0 settingsForm].all
      Instr.wellFormed) = true := by decide +kernel

theorem test_wellFormed_refuses_senders :
    ([Instr.readStatus 0 0, .readStatus 251 0, .readUnrouted 250 256, .restart 251 0, .save 0 0, .clearFlags 251 0 0,
      .setMask 250 256 0].any Instr.wellFormed) = false := by decide +kernel

theorem test_wellFormed_refuses_frames :
    ([Instr.powerLoss 7 [], .powerLoss 4 [.erased, .erased, .erased], .answerReceived { bytes := [] }, .strayStationFrame [],
      .answerReceived { bytes := List.replicate 262 0#8 }, .answerReceived { bytes := [2#8], takes := [0, 0, 0, 0, 0] },
      .answerReceived { bytes := [2#8], takes := [33] }, .loopFrameReceived [], .loopFrameReceived (List.replicate 2217 true),
      .saveCompletion (List.replicate 7 [])].any Instr.wellFormed) = false := by decide +kernel

theorem test_wellFormed_refuses_operands :
    ([Instr.readEntry 1 0 0 1 0, .readEntry 1 0 1 256 0, .readEntry 1 0 2 1 1, .readEntry 1 0 4 1 65536,
      .readEntry 1 0 5 65536 0, .readEntry 1 0 10 0 0, .verify 1 0 256 0, .enrol 1 0 256 0 0, .enrol 1 0 0 256 0,
      .enrol 1 0 0 0 256, .delete 1 0 256, .setWindow 1 0 256 0, .setWindow 1 0 0 256, .addGroupMember 1 0 256 0,
      .removeGroupMember 1 0 0 65536, .setLevel 1 0 65536 0 0 0, .setLevel 1 0 0 256 0 0, .setLevel 1 0 0 0 65536 0,
      .setLevel 1 0 0 0 0 65536, .releaseLayer 1 0 256 0 0, .releaseLayer 1 0 0 65536 0, .releaseLayer 1 0 0 0 65536,
      .setSceneEntry 1 0 256 0 0, .setSceneEntry 1 0 0 65536 0, .setSceneEntry 1 0 0 0 65536, .clearSceneEntry 1 0 256 0,
      .clearSceneEntry 1 0 0 65536, .setSceneFade 1 0 256 0, .setSceneFade 1 0 0 65536, .captureScene 1 0 256,
      .setMode 1 0 256 0, .setMode 1 0 0 256, .fireCue 1 0 256, .clearPending 1 0 256, .setMaster 1 0 256 0,
      .setMaster 1 0 0 65536, .writeCircuit 1 0 65536 circuitForm].any Instr.wellFormed) = false := by decide +kernel

theorem test_wellFormed_refuses_fields :
    ([Instr.writeWindow 1 0 256 windowForm, .writeWindow 1 0 0 { windowForm with trigger := 256 },
      .writeWindow 1 0 0 { windowForm with level := 65536 }, .writeWindow 1 0 0 { windowForm with showSafe := 256 },
      .writeCircuit 1 0 1 { circuitForm with preheat := 65536 }, .writeCircuit 1 0 1 { circuitForm with curve := 256 },
      .writeCircuit 1 0 1 { circuitForm with lossLevel := 65536 }, .writeSettings 1 0 { settingsForm with lineLoss := 256 },
      .writeSettings 1 0 { settingsForm with modeFade := 65536 },
      .writeSettings 1 0 { settingsForm with houseToCue := 256 }].any Instr.wellFormed) = false := by decide +kernel

/-! ### Bytes -/

/-- R193: 'The CRC of no bytes at all is therefore 0xFFFF.' -/
theorem test_crc_of_nothing : crc16 [] = 0xFFFF#16 := by decide +kernel

/-- R193 worked by hand: the register after the byte 0xFF is 0xFF00, since each bit agrees with the bit shifted out. -/
theorem test_crc_of_one_byte : crc16 [0xFF#8] = 0xFF00#16 := by decide +kernel

/-- R194: the flags stand in a flag word in the order of Table 11-4, LOOP_OPEN in bit 0. -/
theorem test_flag_word : Flag.loopOpen.word = 1#16 ∧ Flag.storeFault.word = 0x2000#16 := by decide +kernel

/-- R130: circuits 274 and 390 of Table 7-4. -/
theorem test_segments : circuitAt 2 17 = circuitOf 274 ∧ circuitAt 3 5 = circuitOf 390 ∧ segmentOf 220 = 1 := by
  decide +kernel

/-- Table 12-8 has 32 bytes, the mode at offset 2 and FAULT at offset 16. -/
theorem test_status_bytes : house.statusBytes.length = 32 ∧ house.statusBytes[0]? = some 1#8 := by decide +kernel

/-! ### Levels: the worked examples of section 6.8 -/

/-- Circuit 212 of Table 6-5: SQUARE, preheat 20, top set 900, master group 1 at 750, level 200. -/
def chandelier : EngineCircuit :=
  { EngineCircuit.initial { Attr.default with curve := .square, preheat := 20, topSet := 900, masterGroup := some 1 } with
    target := 200, fadeTarget := 200, level := 200 }

def masters750 : Vector Nat 4 := (Vector.replicate 4 1000).set 1 750

def published212 : EngineCircuit := chandelier.published masters750 { target := 800, winner := .house, fade := 30 }

/-- Table 6-5, k = 0 and k = 1. -/
theorem test_fade_212 :
    (published212.level, published212.code, published212.fadeSteps) = (200, 1475, 150) ∧
    ((published212.stepped masters750).level, (published212.stepped masters750).code) = (204, 1534) := by decide +kernel

/-- Table 6-5, k = 50, k = 150, and the same with the master at 1000. -/
theorem test_codes_212 :
    outputCode masters750 { published212 with level := 400 } = 5898 ∧
    outputCode masters750 { published212 with level := 800 } = 23593 ∧
    outputCode (Vector.replicate 4 1000) { published212 with level := 400 } = 10486 ∧
    outputCode (Vector.replicate 4 1000) { published212 with level := 800 } = 41942 := by decide +kernel

/-- Table 6-6 and the halfway cases after it. -/
theorem test_rounding :
    fadeLevel 700 100 1 35 = 683 ∧ fadeLevel 700 100 5 35 = 614 ∧ fadeLevel 300 301 5 10 = 301 ∧
    fadeLevel 301 300 5 10 = 300 ∧ fadeLevel 400 100 1 50 = 394 := by decide +kernel

/-- FADE_STEP_TIMER_EXPIRY (R114): the fade record of circuit 212 moves to k = 1. -/
theorem test_fadeStep :
    ((after .fadeStepTimerExpiry (withEngine 211 published212 house)).eng 211).level = 204 := by decide +kernel

/-- SET_MASTER (R119): a value above 1000 is clamped and ADJUSTED. -/
theorem test_setMaster :
    (after (.setMaster 250 1 1 1200) house).engine.masters[1]? = some 1000 ∧
    answerTo 250 (after (.setMaster 250 1 1 1200) house) = some .adjusted := by decide +kernel

/-- WRITE_CIRCUIT (R126): the top set is clamped first, and the preheat to it. -/
theorem test_writeCircuit :
    ((after (.writeCircuit 250 1 5 { circuitForm with preheat := 150, topSet := 120 }) house).eng 4).attr.preheat = 120 ∧
    answerTo 250 (after (.writeCircuit 250 1 5 { circuitForm with preheat := 150, topSet := 120 }) house) =
      some .adjusted := by decide +kernel

/-! ### Claims: circuit 212 of Table 3-8 -/

def list212 : List Claim :=
  [claim .work (.station 61 0) (some 14) .latched 700 20, claim .house (.station 44 3) (some 7) .latched 400 30,
    claim .house .management none .latched 250 0, claim .work (.station 62 1) (some 14) (.timed 540) 900 20,
    claim .house (.station 45 3) (some 7) .latched 500 30, claim .work (.station 70 4) (some 21) .momentary 1000 0]

def circuit212 : ClaimCircuit := { ClaimCircuit.empty with claims := list212, target := 500, winner := .house }

/-- The house with circuit 212 of Table 3-8; station 20 stands for station 50. -/
def house212 : State :=
  withEngine 211 { chandelier with target := 500, attr := Attr.default } (withCircuit 211 circuit212 house)

def firstPress : ClaimAction :=
  { station := 20, control := 2, window := 8, layer := .house, work := .setLevel 650 10, target := .circuit 211,
    feedback := .posted }

/-- CLAIM_ACTION_GRANT, the first press: appended at the tail, target 650 of HOUSE, ACK. -/
theorem test_firstPress :
    ((after .claimActionGrant (asked (.claimAction firstPress) house212)).circ 211).target = 650 ∧
    (after .claimActionGrant (asked (.claimAction firstPress) house212)).shotOf 20 2 = some true := by decide +kernel

/-- The second press of Table 3-8: a replacement moves to the tail and keeps the pool count. -/
theorem test_replacement :
    (((house212.placeOne 211 (claim .house (.station 44 3) (some 9) .latched 300 15)).circ 211).claims.map (·.level)) =
      [700, 250, 900, 500, 1000, 300] ∧
    (house212.placeOne 211 (claim .house (.station 44 3) (some 9) .latched 300 15)).claims.poolFree = 1530 := by
  decide +kernel

/-- R71: 540 seconds become 539. -/
theorem test_claimTimer : (claim .work (.station 62 1) (some 14) (.timed 540) 900 20).counted.kind = .timed 539 := by
  decide +kernel

/-- R71, R72: one second left becomes EXPIRED, an expiry request joins, and its grant removes the claim. -/
def expiring : State :=
  withCircuit 4 { ClaimCircuit.empty with claims := [claim .house (.station 20 1) none (.timed 1) 300 5] } house

theorem test_expiry :
    (after .claimTimerExpiry expiring).claims.order = [.expiry] ∧
    ((after .expiryGrant (after .claimTimerExpiry expiring)).circ 4).claims = [] := by decide +kernel

/-- R42, Table 2-6: the fader at 333 of a window at 600 gives 200. -/
theorem test_fader : faderLevel 333 600 = 200 := by decide +kernel

/-- ABSENCE_GRANT (R10): the MOMENTARY claim of station 37 goes and STATION_MISSING is set. -/
def pressed37 : State :=
  withCircuit 4 { ClaimCircuit.empty with claims := [claim .house (.station 37 1) none .momentary 1000 0] } house

theorem test_absenceGrant :
    ((after .absenceGrant (asked (.absence 37) pressed37)).circ 4).claims = [] ∧
    (after .absenceGrant (asked (.absence 37) pressed37)).mgmt.flags = 0x0080#16 := by decide +kernel

/-- STATION_REMOVAL_GRANT (R20): every claim of any control of the station. -/
theorem test_removalGrant : ((after .stationRemovalGrant (asked (.removal 37) pressed37)).circ 4).claims = [] := by
  decide +kernel

/-- SET_LEVEL and its grant (R73). -/
theorem test_setLevel :
    (after (.setLevel 250 7 5 1 1200 10) house).claims.order = [.setLevel 250 4 .house 1000 10 true] ∧
    answerTo 250 (after .setLevelGrant (after (.setLevel 250 7 5 1 1200 10) house)) = some .adjusted := by decide +kernel

/-- RELEASE_LAYER (R74): a range of circuits that runs backwards is out of range. -/
theorem test_releaseLayer :
    answerTo 250 (after (.releaseLayer 250 7 0 220 200) house) = some .outOfRange ∧
    (after (.releaseLayer 250 7 0 200 220) house).claims.order = [.releaseLayer 250 .work 199 219] := by decide +kernel

/-- MERGE_RULE_GRANT (R75): under LATEST the last HOUSE claim of Table 3-8 decides. -/
theorem test_mergeRule :
    ((after .mergeRuleGrant (after (.writeCircuit 250 7 212 { circuitForm with mergeRule := 1 })
      (withAttr 211 Attr.default house212))).circ 211).target = 500 := by decide +kernel

/-! ### Scenes -/

def scene7 : SceneRecord := { fade := 40, entries := [{ circuit := 3, level := 600 }, { circuit := 5, level := 500 }] }

/-- A house with scene 7, SCENE claims of scene 5 on two circuits, the first of them not in scene 7. -/
def sceneHouse : State :=
  withCircuit 2 { ClaimCircuit.empty with claims := [claim .scene .scenePlayer none .latched 400 30], target := 400, winner := .scene }
    (withCircuit 3 { ClaimCircuit.empty with claims := [claim .scene .scenePlayer none .latched 300 30], target := 300, winner := .scene }
      (house.setScene 6 scene7))

def recalled : State := after .recallGrant (asked (.recall 6 (some ⟨12, 3, .posted⟩)) (sceneHouse.setScene 6 ⟨40, [⟨3, 600⟩]⟩))

/-- RECALL_GRANT (Table 4-6, rows 201 and 202): a claim outside the scene goes, one inside is replaced. -/
theorem test_recallGrant :
    (recalled.circ 2).claims = [] ∧ (recalled.circ 3).claims.map (·.level) = [600] ∧ recalled.player.active = none := by
  decide +kernel

/-- RECALL_COMPLETION (R88). -/
def inFlight : State :=
  { house with claims := { house.claims with openSet := some (.recall ⟨6, scene7, none, false⟩) } }

theorem test_recallCompletion :
    (after .recallCompletion inFlight).player.active = some 6 ∧ (after .recallCompletion inFlight).claims.openSet = none := by
  decide +kernel

/-- RELEASE_GRANT (R91). -/
theorem test_releaseGrant :
    ((after .releaseGrant (asked (.release ⟨12, 3, .posted⟩) sceneHouse)).circ 2).claims = [] := by decide +kernel

/-- CAPTURE_SCENE (R92), and its grant while the store is BUSY (R93). -/
theorem test_capture :
    (after (.captureScene 250 7 3) house).claims.order = [.capture 250 2] ∧
    answerTo 250 (after .captureGrant (withStore (.saving 0) (after (.captureScene 250 7 3) house))) = some .busy := by
  decide +kernel

/-- SET_SCENE_ENTRY (R80), CLEAR_SCENE_ENTRY and SET_SCENE_FADE (R81). -/
theorem test_sceneEdits :
    ((after (.setSceneEntry 250 7 7 5 800) sceneHouse).player.scenes[6]?.map fun r => r.entries.map (·.level)) =
      some [600, 800, 500] ∧
    ((after (.clearSceneEntry 250 7 7 4) sceneHouse).player.scenes[6]?.map fun r => r.entries.map (·.level)) =
      some [500] ∧
    ((after (.setSceneFade 250 7 7 7000) sceneHouse).player.scenes[6]?.map (·.fade)) = some 6000 := by decide +kernel

/-! ### Cues and show mode -/

def deferred : Pending :=
  { station := 12, control := 2, window := 42, cue := .b, work := .claim .house (.setLevel 500 3) (.circuit 4),
    feedback := .posted }

def cueHouse : State := house.setPendings [deferred]

/-- CUE_INPUT_DEBOUNCED (R99, R101): the record moves to a cue request. -/
theorem test_cueInput :
    (after (.cueInputDebounced .b true) cueHouse).claims.order = [.cue .b [deferred] []] ∧
    (after (.cueInputDebounced .b true) cueHouse).cues.pendings = [] := by decide +kernel

/-- FIRE_CUE, CUE_GRANT and CUE_COMPLETION (R100, R102, R103): the claim stands after the grant, the target after the close. -/
theorem test_cue :
    ((after .cueGrant (after (.fireCue 250 9 1) cueHouse)).circ 4).target = 0 ∧
    ((after .cueCompletion (after .cueGrant (after (.fireCue 250 9 1) cueHouse))).circ 4).target = 500 ∧
    ((after .cueCompletion (after .cueGrant (after (.fireCue 250 9 1) cueHouse))).replyOf 250).map (·.payload) =
      some [0#8, 1#8] := by decide +kernel

/-- R194: a deferred circuit reads as two bytes, most significant first. -/
theorem test_pendingTarget :
    ({ deferred with work := .claim .house (.setLevel 500 3) (.circuit 511) } : Pending).bytes =
      [0, 12, 2, 42, 1, 0, 1, 1, 0xF4, 0, 3, 0xFF, 0xFF, 0xFF, 2, 0, 0] := by decide +kernel

/-- CLEAR_PENDING (R98): NACK to the owner. -/
theorem test_clearPending :
    (after (.clearPending 250 9 2) cueHouse).cues.pendings = [] ∧
    (after (.clearPending 250 9 2) cueHouse).shotOf 12 2 = some false := by decide +kernel

/-- Circuit 221 of Table 5-7. -/
def house221 : State :=
  withCircuit 220
    { ClaimCircuit.empty with claims := [claim .work (.station 70 2) (some 5) .latched 600 20], target := 600, winner := .work }
    house

/-- SET_MODE and its grant (R62, R108): in PERFORMANCE a WORK claim is not eligible. -/
theorem test_mode :
    ((after .modeChangeGrant (after (.setMode 250 9 1 0) house221)).circ 220).target = 0 ∧
    (after .modeChangeGrant (after (.setMode 250 9 1 0) house221)).cues.mode = .performance := by decide +kernel

/-! ### Route resolution: Table 2-6 -/

/-- Window 3 of Table 2-5, as a SET. -/
def window3 : Window :=
  { Window.default with
    enabled := true, stationFirst := 20, stationLast := 23, controlFirst := 0, controlLast := 3, action := .setLevel,
    target := .offset 100, rowPitch := 4, layer := .house, level := 850, fade := 20, showSafe := true }

def foyer : State := withWindow 3 window3 { house with line := { house.line with roster := [entry 21 8 .nothing .present 0] } }

/-- TAKE_EVENT_RECORD (R31): station 21, control 2 gives circuit 101 + 1 × 4 + 2 = 107. -/
theorem test_take :
    (after .takeEventRecord (withIntake [⟨21, 2, .press, 0⟩] foyer)).claims.order =
      [.claimAction ⟨21, 2, 3, .house, .setLevel 850 20, .circuit 106, window3.feedback⟩] := by decide +kernel

/-- R27: an unrouted PRESS gives NACK. -/
theorem test_unrouted :
    (after .takeEventRecord (withIntake [⟨21, 7, .press, 0⟩] foyer)).shotOf 21 7 = some false := by decide +kernel

/-- WRITE_WINDOW and SET_WINDOW (R48, R49): the store BUSY comes before a bad enable code. -/
theorem test_windows :
    answerTo 250 (after (.writeWindow 250 9 3 windowForm) foyer) = some .refusedLive ∧
    answerTo 250 (after (.setWindow 250 9 3 2) (withStore (.saving 0) foyer)) = some .busy ∧
    ((after (.setWindow 250 9 3 0) foyer).window 3).enabled = false := by decide +kernel

/-- ADD_GROUP_MEMBER and REMOVE_GROUP_MEMBER (R47). -/
theorem test_groups :
    (after (.addGroupMember 250 9 5 101) (house.setGroup 5 [200])).route.groups[5]? = some [100, 200] ∧
    (after (.removeGroupMember 250 9 5 201) (house.setGroup 5 [200])).route.groups[5]? = some [] := by decide +kernel

/-! ### The station line -/

/-- An ANSWER of station 37 with one RELEASE of control 1 (Table 1-5, cycle 14). -/
def release37 : List Byte := answerFrame 37 0 (RawEvent.bytes ⟨1, 1, 0⟩)

def open37 : State := { house with line := { house.line with phase := .awaiting 37, position := .roster 37 } }

/-- ANSWER_RECEIVED (R8): PRESENT with no misses, and the record queued. -/
theorem test_answer :
    ((after (.answerReceived { bytes := release37 }) open37).entryOf 37).map (fun e => (e.live, e.missed)) = some (.present, 0) ∧
    (after (.answerReceived { bytes := release37 }) open37).route.intake = [⟨37, 1, .release, 0⟩] := by decide +kernel

/-- An ANSWER of station 37 with a PRESS of control 0 and one of control 1, at a full intake queue. -/
def presses37 : List Byte := answerFrame 37 0 ([⟨0, 0, 0⟩, ⟨1, 0, 0⟩].flatMap RawEvent.bytes)

def full37 : State := withIntake (List.replicate 32 ⟨13, 0, .press, 0⟩) open37

/-- R12: the first record is dropped, a head is taken, and the second record finds its place. -/
theorem test_takesBetween :
    (after (.answerReceived { bytes := presses37, takes := [0, 1] }) full37).route.intake.getLast? = some ⟨37, 1, .press, 0⟩ ∧
    (after (.answerReceived { bytes := presses37, takes := [0, 1] }) full37).mgmt.flags = 0x0200#16 := by decide +kernel

/-- ANSWER_WINDOW_TIMEOUT (Table 1-5, cycle 3): the third miss requests absence. -/
theorem test_timeout : (after .answerWindowTimeout open37).claims.order = [.absence 37] := by decide +kernel

/-- POLL_SENT (R5). -/
theorem test_pollSent :
    (after .pollSent { house with line := { house.line with phase := .sending ⟨12, [], none⟩ } }).line.phase = .awaiting 12 := by
  decide +kernel

/-- STRAY_STATION_FRAME (R6). -/
theorem test_stray : (after (.strayStationFrame release37) house).line = house.line := by decide +kernel

/-- ENROL and DELETE (R19, R20). -/
theorem test_roster :
    ((after (.enrol 250 9 21 40 1) house).entryOf 21).map (·.controls) = some 32 ∧
    (after (.delete 250 9 20) house).line.roster.map (·.station) = [12, 37] := by decide +kernel

/-- LINE_LOSS_TIMER_EXPIRY (R164). -/
theorem test_lineLoss :
    ((after .lineLossTimerExpiry (withAttr 4 { Attr.default with lossAction := .safe, lossLevel := 700 } house)).circ 4).loss =
      some 700 := by decide +kernel

/-! ### EGRESS -/

def aisle : State := withAttr 4 { Attr.default with egress := true, egressLevel := 800 } house

def aisleAsserted : State := { aisle with claims := { aisle.claims with egressAsserted := true } }

/-- R149, R174: the first LEVEL frame is built before the EGRESS sample, with the code of level 0, and the slot is written after it. -/
theorem test_builtFirst :
    ((aisleAsserted.scheduleAndSample true).loop.transmitter.map fun f => f.slots[4]?) = some (some 0#16) ∧
    ((aisleAsserted.scheduleAndSample false).loop.transmitter.isNone) = true := by decide +kernel

/-- EGRESS_ASSERTION and EGRESS_RELEASE (R162, R163). -/
theorem test_egress :
    ((after .egressAssertion aisle).circ 4).target = 800 ∧ ((after .egressRelease (after .egressAssertion aisle)).circ 4).egress = none := by
  decide +kernel

/-! ### The loop: Table 7-4 -/

def codes (n : Nat) : List Word := List.replicate 128 (BitVec.ofNat 16 n)

/-- A house with one LEVEL frame outstanding. -/
def waitingFrame (g : Segment) (seq : BitVec 8) : State :=
  house.withLoop { house.loop with outstanding := [⟨.level, g, seq, codes 1475, true⟩] }

/-- Frame 41: a bit changed in slot 17 of segment 2 gives PARITY with circuit 274. -/
theorem test_frame41 :
    (after (.loopFrameReceived
      ((LoopFrame.bits ⟨.level, 2, 41, codes 1475⟩).set (24 + 17 * 17) true)) (waitingFrame 2 41)).loop.fault =
      some ⟨.parity, 2, circuitOf 274, 1⟩ := by decide +kernel

/-- Frame 42: slot 5 of segment 3 holds another code with its parity. -/
theorem test_frame42 :
    (after (.loopFrameReceived (LoopFrame.bits ⟨.level, 3, 42, (codes 1475).set 5 1476⟩)) (waitingFrame 3 42)).loop.fault =
      some ⟨.corrupt, 3, circuitOf 390, 1⟩ := by decide +kernel

/-- Frame 43: slot 3 NO_LOAD on an egress circuit, slot 9 OVERTEMP. -/
def status43 : State :=
  (withAttr 3 { Attr.default with egress := true } house).withLoop
    { house.loop with outstanding := [⟨.status, 0, 43, [], true⟩] }

theorem test_frame43 :
    (status43.writeStatus 0 (((codes 1).set 3 2).set 9 3)).mgmt.flags = 0x0038#16 ∧
    (status43.writeStatus 0 (((codes 1).set 3 2).set 9 3)).loop.status[9]? = some .overtemp := by decide +kernel

/-- R142: a STATUS value above 5 in slot 0 is CORRUPT with circuit 1. -/
theorem test_badStatus :
    (after (.loopFrameReceived (LoopFrame.bits ⟨.status, 0, 43, codes 6⟩)) status43).loop.fault =
      some ⟨.corrupt, 0, circuitOf 1, 1⟩ := by decide +kernel

/-- Frame 46: the third OPEN in a row reports LOOP_OPEN. -/
theorem test_frame46 :
    (after .returnTimeout ((waitingFrame 2 46).withLoop { (waitingFrame 2 46).loop with failures := 2, openRun := 2 })).mgmt.flags =
      0x0001#16 ∧
    (after .returnTimeout ((waitingFrame 2 46).withLoop { (waitingFrame 2 46).loop with failures := 2, openRun := 2 })).loop.fault =
      some ⟨.opened, 2, none, 3⟩ := by decide +kernel

/-- LEVEL_SCHEDULE_TIMER_EXPIRY, STATUS_SCHEDULE_TIMER_EXPIRY, FRAME_TRANSMIT_START and FRAME_TRANSMIT_END (R132 to R137). -/
def scheduled : State := after .statusScheduleTimerExpiry (after .levelScheduleTimerExpiry house)

theorem test_schedule :
    scheduled.loop.waiting = [⟨.level, 0⟩, ⟨.status, 0⟩] ∧
    (after .frameTransmitStart scheduled).loop.outstanding.map (·.ended) = [false] ∧
    (after .frameTransmitEnd (after .frameTransmitStart scheduled)).loop.outstanding.map (·.ended) = [true] := by
  decide +kernel

/-! ### Store and management -/

/-- SAVE and SAVE_COMPLETION (R177). -/
theorem test_save :
    (after (.save 250 9) house).store.image[0]? = some .erased ∧
    answerTo 250 (after (.save 250 9) house) = some .accepted := by decide +kernel

/-- SAVE_COMPLETION (R177): a first section that reads back otherwise ends the SAVE with FAIL and STORE_FAULT. -/
theorem test_saveCompletion :
    (after (.saveCompletion [[1#8]]) (withStore (.saving 0) house)).store.last = .save false ∧
    (after (.saveCompletion [[1#8]]) (withStore (.saving 0) house)).mgmt.flags = 0x2000#16 := by decide +kernel

/-- VERIFY and VERIFY_COMPLETION (R179): an erased section has the CRC of no bytes. -/
theorem test_verify :
    ((after .verifyCompletion (after (.verify 250 9 1 0xFFFF) house)).replyOf 250).map (·.payload) =
      some [0#8, 0xFF#8, 0xFF#8] := by decide +kernel

/-- POWER_ON and POWER_LOSS (R171, R178). -/
theorem test_power :
    (after (.powerLoss 0 []) house).powered = false ∧ (after .powerOn house).part = .loading := by decide +kernel

/-- LOADING_END of an erased image (R175). -/
theorem test_loadingEnd :
    (after (.loadingEnd .released false false) State.reset).part = .unconfigured ∧
    (after (.loadingEnd .released false false) State.reset).mgmt.flags = 0x2000#16 := by decide +kernel

/-- READ_STATUS, READ_ENTRY and READ_UNROUTED (R185, R186, R198). -/
theorem test_reads :
    ((after (.readStatus 250 9) house).replyOf 250).map (·.payload.length) = some 32 ∧
    ((after (.readEntry 250 9 1 37 0) house).replyOf 250).map (·.payload) = some [37#8, 4#8, 0#8, 1#8, 2#8, 0#8] ∧
    ((after (.readUnrouted 250 9) house).replyOf 250).map (·.payload) = some [0xFF#8, 0xFF#8, 0xFF#8] := by decide +kernel

/-- CLEAR_FLAGS and SET_MASK (R188, R189). -/
theorem test_flags :
    (after (.clearFlags 250 9 0x3FFF) (house.report .loopOpen)).mgmt.flags = 0 ∧
    answerTo 250 (after (.setMask 250 9 0x0021) house) = some .adjusted ∧
    (after (.setMask 250 9 0x0021) house).mgmt.settings.masks = 1 := by decide +kernel

/-- WRITE_SETTINGS and RESTART (R180, R191). -/
theorem test_settings :
    (after (.writeSettings 250 9 { settingsForm with lineLoss := 2 }) house).mgmt.settings.lineLoss = 5 ∧
    (after (.restart 250 9) house).mgmt.restartSet = [250] := by decide +kernel

/-! ### Witnesses: for each statement with hypotheses, a state and operands that meet them -/

theorem everywhere_house {P : ClaimCircuit → Prop} (h : P .empty) (c : Circuit) : P (house.circ c) := by
  simpa [house, State.reset, State.circ] using h

theorem everywhere_withCircuit {P : ClaimCircuit → Prop} {s : State} (k : Circuit) {t : ClaimCircuit} (h : P t)
    (hs : ∀ c, P (s.circ c)) (c : Circuit) : P ((withCircuit k t s).circ c) := by
  unfold withCircuit State.circ
  by_cases e : c = k
  · subst e; simpa using h
  · rw [set_other _ _ e]; exact hs c

/-- With the arbiter free, the request that waits alone is the one to grant. -/
theorem grants_asked {r : Request} {s : State} (hp : s.part ≠ .loading) (ho : s.claims.openSet = none)
    (he : ∀ c : Circuit, (s.circ c).entry = none) : (asked r s).Grants r [] := ⟨⟨hp, ho, he⟩, rfl⟩

theorem grants_house (r : Request) : (asked r house).Grants r [] :=
  grants_asked (by decide) rfl (everywhere_house (P := fun t => t.entry = none) rfl)

/-- The house with a command waiting that its step runs. -/
def lively : State :=
  { asked (.setLevel 250 4 .house 500 10 false) (inProgress 250 7 house) with pending := [.setLevelGrant] }

theorem lively_next : ∃ t, step lively = .next t := ⟨_, rfl⟩

theorem lively_fresh : lively.FreshInLoading := fun h => absurd h (by decide)

theorem lively_circ (c : Circuit) : lively.circ c = .empty := everywhere_house (P := fun t => t = .empty) rfl c

theorem lively_eng (c : Circuit) : lively.eng c = EngineCircuit.initial Attr.default := by
  simp [lively, asked, inProgress, house, State.reset, State.eng]

theorem witness_StepRunsTheFrontCommand : lively.pending = .setLevelGrant :: [] ∧ house.pending = [] := ⟨rfl, rfl⟩

/-- A state of LOADING that a step leaves in LOADING. -/
def resting : State := { State.reset with pending := [.pollSent] }

theorem witness_StepKeepsLoadingFresh : resting.part = .loading ∧ resting.FreshInLoading ∧ ∃ t, step resting = .next t :=
  ⟨rfl, fun _ => rfl, _, rfl⟩

theorem witness_StepKeepsTheClaimLaw : lively.ClaimLaw ∧ ∃ t, step lively = .next t := by
  refine ⟨⟨?_, fun c => ?_⟩, lively_next⟩
  · have h : lively.poolInUse = 0 := by unfold State.poolInUse; simp [lively_circ, ClaimCircuit.empty]
    rw [h]; rfl
  · rw [lively_circ]; decide

theorem witness_StepKeepsHeldTargets : lively.FreshInLoading ∧ lively.HeldLaw ∧ ∃ t, step lively = .next t :=
  ⟨lively_fresh, fun c => by rw [lively_circ, lively_eng]; decide, lively_next⟩

theorem witness_StepKeepsTheMergeLaw : lively.FreshInLoading ∧ lively.MergeLaw ∧ ∃ t, step lively = .next t :=
  ⟨lively_fresh, fun c => by unfold State.mergeOf; rw [lively_circ, lively_eng]; exact ⟨fun _ => rfl, fun _ _ => rfl⟩,
    lively_next⟩

theorem witness_StepKeepsTheSlotLaws :
    lively.FreshInLoading ∧ (∃ t, step lively = .next t) ∧ lively.EgressLaw ∧ lively.LossLaw :=
  ⟨lively_fresh, lively_next, fun c => by rw [lively_circ, lively_eng]; rfl, fun _ c => by rw [lively_circ]; rfl⟩

/-- The house with an absence request waiting, for the station that has missed 3 answers, and its grant next. -/
def missing : State :=
  { asked (.absence 37) house with
    line := { house.line with roster := [entry 12 8 .config .present 0, entry 37 4 .nothing .present 3] }
    pending := [.absenceGrant] }

theorem witness_StepKeepsTheRosterLaws :
    missing.FreshInLoading ∧ (∃ t, step missing = .next t) ∧ missing.RosterLaw ∧ missing.AbsenceLaw := by
  refine ⟨fun h => absurd h (by decide), ⟨_, rfl⟩, by unfold State.RosterLaw; decide +kernel, fun n _ c cl h => ?_⟩
  have e : missing.circ c = .empty := everywhere_house (P := fun t => t = .empty) rfl c
  rw [e] at h; cases h

theorem witness_StepKeepsTheQueueLaw : cueHouse.QueueLaw ∧ cueHouse.cues.pendings ≠ [] ∧
    ∃ t, step { cueHouse with pending := [.fireCue 250 9 1] } = .next t :=
  ⟨by unfold State.QueueLaw; decide +kernel, by decide, _, rfl⟩

theorem witness_StepKeepsTheLoopLaw :
    (waitingFrame 2 41).FreshInLoading ∧ (waitingFrame 2 41).LoopLaw ∧
    ∃ t, step { waitingFrame 2 41 with pending := [.returnTimeout] } = .next t :=
  ⟨fun h => absurd h (by decide), by unfold State.LoopLaw; decide +kernel, _, rfl⟩

theorem good_house : house.tables.Good := by
  refine ⟨by unfold Settings.Good; decide +kernel, by decide +kernel, ?_, ?_, ?_, ?_⟩
  · intro w h
    have : w = Window.default := by simpa [house, State.reset, State.tables, Vector.toList_replicate] using h
    subst this; unfold Window.Good; decide +kernel
  · decide +kernel
  · constructor
    · intro r h
      have : r = { fade := 0, entries := [] } := by
        simpa [house, State.reset, State.tables, Vector.toList_replicate] using h
      subst this; unfold SceneRecord.Good; decide +kernel
    · decide +kernel
  · intro a h
    obtain ⟨i, hi, rfl⟩ := List.getElem_of_mem h
    have : house.tables.attrs.toList[i] = Attr.default := by
      simp [house, State.reset, State.tables, EngineCircuit.initial]
    rw [this]; unfold Attr.Good; decide +kernel

theorem witness_StepKeepsTheRangeLaw : lively.FreshInLoading ∧ lively.RangeLaw ∧ ∃ t, step lively = .next t := by
  refine ⟨lively_fresh, ⟨good_house, ?_, nofun, by decide, by decide, fun c => ?_⟩, lively_next⟩
  · intro r h
    have : r = .setLevel 250 4 .house 500 10 false := by simpa [lively, asked] using h
    subst this; unfold Request.Good; decide
  · rw [lively_circ, lively_eng]; decide

theorem witness_ImageRoundTrip : house.tables.Good ∧ house.tables.roster.length = 3 := ⟨good_house, rfl⟩

theorem witness_EnabledWindowsKeepTheirFields :
    foyer.FreshInLoading ∧ ∃ t, step { withIntake [⟨21, 2, .press, 0⟩] foyer with pending := [.takeEventRecord] } = .next t ∧
      (foyer.window 3).enabled = true ∧ (t.window 3).enabled = true :=
  ⟨fun h => absurd h (by decide), _, rfl, by decide +kernel, by decide +kernel⟩

theorem witness_BusyStoreKeepsTheTables :
    (withStore (.saving 0) house).FreshInLoading ∧ (withStore (.saving 0) house).store.state ≠ .idle ∧
    ∃ t, step { withStore (.saving 0) house with pending := [.setMask 250 9 1] } = .next t ∧ t.part ≠ .loading :=
  ⟨fun h => absurd h (by decide), by decide, _, rfl, by decide +kernel⟩

/-- A pinned WORK mode with a SET_MODE waiting. -/
def pinned : State :=
  { asked (.modeSet 250 .performance) (inProgress 250 9 house221) with
    cues := { house.cues with pin := true }, pending := [.modeChangeGrant] }

theorem witness_ModeChangesOnlyAtItsGrant :
    ∃ t, step pinned = .next t ∧ t.part ≠ .loading ∧ t.cues.mode ≠ pinned.cues.mode ∧ pinned.cues.pin = true :=
  ⟨_, rfl, by decide +kernel, by decide +kernel, rfl⟩

theorem witness_LoadingIgnoresEveryEvent :
    State.reset.part = .loading ∧ State.reset.FreshInLoading ∧ Instr.takeEventRecord ≠ .powerOn ∧
    (∀ done rest, Instr.takeEventRecord ≠ .powerLoss done rest) ∧ ∀ x y z, Instr.takeEventRecord ≠ .loadingEnd x y z :=
  ⟨rfl, fun _ => rfl, nofun, nofun, nofun⟩

theorem witness_WireFormsReadAsWritten :
    (Instr.setLevel 250 255 512 2 1000 6000).wellFormed = true ∧
    (requestForm (.setLevel 250 255 512 2 1000 6000)).isSome = true ∧
    ([⟨0, 0, 0⟩, ⟨255, 255, 65535⟩, ⟨1, 1, 1⟩, ⟨31, 4, 1000⟩] : List RawEvent).length ≤ 4 ∧
    ∀ r ∈ ([⟨0, 0, 0⟩, ⟨255, 255, 65535⟩, ⟨1, 1, 1⟩, ⟨31, 4, 1000⟩] : List RawEvent),
      r.control < 256 ∧ r.kind < 256 ∧ r.value < 65536 := by decide +kernel

theorem witness_AnswersRunTheirRequests :
    house.line.phase = .awaiting Config.serviceStation ∧ house.entryOf Config.serviceStation = none ∧
    (Instr.setMask 250 7 1).wellFormed = true ∧ ((requestForm (.setMask 250 7 1)).map (·.sender)) = some 250 ∧
    ∃ t, exec (.setMask 250 7 1) house = .next t :=
  ⟨rfl, by decide +kernel, by decide +kernel, by decide +kernel, _, rfl⟩

/-- Records of station 250: a bad CRC, the codes 0 and 27, a bad length, and a write that is not checked. -/
theorem witness_AnswersRunTheirRequests_records :
    house.part ≠ .loading ∧ house.takes 20 = false ∧ house.takes 250 = true ∧
    ((26 < (27 : Nat) ∨ (27 : Nat) = 0) ∧ (26 < (0 : Nat) ∨ (0 : Nat) = 0)) ∧ askedOf 250 7 1 [0#8] = .badLength ∧
    isWrite 5 = true ∧ askedOf 250 7 5 [0#8, 1#8] = .command (.setMask 250 7 1) := by decide +kernel

theorem witness_PowerKeepsTheImage :
    house.powered = true ∧ (∀ n, house.store.state ≠ .saving n) ∧ (withStore (.saving 3) house).powered = true ∧
    (withStore (.saving 3) house).store.state = .saving 3 ∧ ((0 : SectionNo).val < 5 ∧ 5 ≤ (5 : SectionNo).val) :=
  ⟨rfl, by decide, rfl, rfl, by decide⟩

theorem readMany_replicate {α : Type} {one : Reader α} {a : α} {bytes : List Byte}
    (h : ∀ rest, one (bytes ++ rest) = some (a, rest)) :
    ∀ n, readMany one n (List.replicate n bytes).flatten = some (List.replicate n a, [])
  | 0 => rfl
  | n + 1 => by simp [readMany, List.replicate_succ, h, readMany_replicate h n]

theorem whole_replicate {α : Type} {one : Reader α} {a : α} {bytes : List Byte}
    (h : ∀ rest, one (bytes ++ rest) = some (a, rest)) (n : Nat) :
    whole (readMany one n) (List.replicate n bytes).flatten = some (List.replicate n a) := by
  simp [whole, readMany_replicate h n]

theorem readFixed_append {α : Type} {of : List Byte → Option α} {a : α} {bytes : List Byte} (h : of bytes = some a)
    (rest : List Byte) : readFixed bytes.length of (bytes ++ rest) = some (a, rest) := by
  simp [readFixed, h]

theorem load_replicate {α : Type} {of : List Byte → Option α} {a : α} {bytes : List Byte} (h : of bytes = some a) (f : α → List Byte)
    (n : Nat) (hf : f a = bytes) :
    ((whole (readMany (readFixed bytes.length of) n) ((Vector.replicate n a).toList.flatMap f)).bind (tableOf n)).isSome = true := by
  rw [Vector.toList_replicate, List.flatMap_replicate, hf, whole_replicate (readFixed_append h)]
  simp [tableOf]

theorem windows_load : (loadWindows (Tables.default.content 2)).isSome = true :=
  load_replicate (a := Window.default) (of := windowEntry) (bytes := windowBytes Window.default.fields) (by decide +kernel)
    (fun w => windowBytes w.fields) 64 rfl

theorem circuits_load : (loadCircuits (Tables.default.content 5)).isSome = true :=
  load_replicate (a := Attr.default) (of := circuitEntry) (bytes := circuitBytes Attr.default.fields) (by decide +kernel)
    (fun a => circuitBytes a.fields) 512 rfl

theorem soundContent_written (t : Tables) (n : SectionNo) : soundContent (t.written n) = some (t.content n) := by
  simp [Tables.written, soundContent]

theorem loads_of_sections {image : Vector ImageSection 6} (h0 : ((soundContent image[0]).bind loadSettings).isSome = true)
    (h1 : ((soundContent image[1]).bind loadRoster).isSome = true) (h2 : ((soundContent image[2]).bind loadWindows).isSome = true)
    (h3 : ((soundContent image[3]).bind loadGroups).isSome = true) (h4 : ((soundContent image[4]).bind loadScenes).isSome = true)
    (h5 : ((soundContent image[5]).bind loadCircuits).isSome = true) : (loadImage image).isSome = true := by
  obtain ⟨a, ha⟩ := Option.isSome_iff_exists.1 h0
  obtain ⟨b, hb⟩ := Option.isSome_iff_exists.1 h1
  obtain ⟨c, hc⟩ := Option.isSome_iff_exists.1 h2
  obtain ⟨d, hd⟩ := Option.isSome_iff_exists.1 h3
  obtain ⟨e, he⟩ := Option.isSome_iff_exists.1 h4
  obtain ⟨f, hf⟩ := Option.isSome_iff_exists.1 h5
  unfold loadImage; rw [ha, hb, hc, hd, he, hf]; rfl

theorem written_loads {α : Type} (load : List Byte → Option α) (n : SectionNo)
    (h : (load (Tables.default.content n)).isSome = true) :
    ((soundContent ((Vector.ofFn Tables.default.written)[n])).bind load).isSome = true := by
  rw [Fin.getElem_fin, Vector.getElem_ofFn, soundContent_written]; exact h

/-- The image of the default tables loads. -/
theorem default_loads : (loadImage (Vector.ofFn Tables.default.written)).isSome = true :=
  loads_of_sections (written_loads loadSettings 0 (by decide +kernel)) (written_loads loadRoster 1 (by decide +kernel))
    (written_loads loadWindows 2 windows_load) (written_loads loadGroups 3 (by decide +kernel))
    (written_loads loadScenes 4 (by decide +kernel)) (written_loads loadCircuits 5 circuits_load)

def stored : State :=
  { State.reset with store := { State.reset.store with image := Vector.ofFn Tables.default.written } }

/-- An image that loads, one that does not, and the three samples. -/
theorem witness_LoadingEndEntersItsState :
    (EgressSample.released ≠ .asserted true ∧ EgressSample.asserted false ≠ .asserted true) ∧
    stored.powered = true ∧ stored.part = .loading ∧ stored.FreshInLoading ∧ (∃ T, loadImage stored.store.image = some T) ∧
    State.reset.FreshInLoading ∧ loadImage State.reset.store.image = none :=
  ⟨by decide, rfl, rfl, fun _ => rfl, Option.isSome_iff_exists.1 default_loads, fun _ => rfl, by decide +kernel⟩

def withPhase (p : LinePhase) (s : State) : State := { s with line := { s.line with phase := p } }

theorem witness_PollsOpenTheAnswerWindow :
    (withPhase (.sending ⟨12, [.off], none⟩) house).line.phase = .sending ⟨12, [.off], none⟩ ∧
    12 ∉ (withPhase (.sending ⟨12, [], some ⟨1, .done, []⟩⟩) house).mgmt.restartSet ∧
    12 ∈ (after (.restart 12 9) (withPhase (.sending ⟨12, [], some ⟨9, .accepted, []⟩⟩) house)).mgmt.restartSet ∧
    ∀ n, State.reset.line.phase ≠ .awaiting n := ⟨rfl, by decide +kernel, by decide +kernel, nofun⟩

/-- An intake queue with one free place, for an answer with two good records: the second, a PRESS, finds none. -/
def fullIntake : State := withIntake (List.replicate 31 ⟨12, 0, .press, 0⟩) open37

theorem witness_ValidAnswerIsTaken :
    fullIntake.line.phase = .awaiting 37 ∧ fullIntake.entryOf 37 = some (entry 37 4 .nothing .present 2) ∧
    answerOf 37 release37 = some (.events [⟨1, 1, 0⟩]) ∧ answerOf 37 presses37 = some (.events [⟨0, 0, 0⟩, ⟨1, 0, 0⟩]) ∧
    fullIntake.route.intake.length ≤ Config.intakeMax ∧
    (∃ r ∈ [⟨37, 0, .press, 0⟩, (⟨37, 1, .press, 0⟩ : EventRecord)].drop (Config.intakeMax - fullIntake.route.intake.length),
      r.kind = .press) := by decide +kernel

/-- Line loss is declared, station 37 alone is enrolled, and LOSS slots hold a level on circuits 5 and 6, with an EGRESS slot on 6. -/
def losing : State :=
  withCircuit 4 { ClaimCircuit.empty with loss := some 0, winner := .safety }
    (withCircuit 5 { ClaimCircuit.empty with loss := some 700, egress := some 800, target := 800, winner := .safety }
      { open37 with
        line := { open37.line with roster := [entry 37 4 .nothing .present 2], lossDeclared := true, lossTimer := none } })

theorem witness_ValidAnswerIsTaken_loss :
    losing.line.phase = .awaiting 37 ∧ losing.entryOf 37 = some (entry 37 4 .nothing .present 2) ∧
    losing.line.lossDeclared = true ∧ open37.line.lossDeclared = false ∧ (losing.circ 4).loss.isSome = true ∧
    (losing.circ 5).loss.isSome = true ∧ (losing.circ 6).loss = none ∧
    (RawEvent.checked 37 4 ⟨3, 4, 1000⟩).isSome = true ∧ RawEvent.checked 37 4 ⟨4, 0, 0⟩ = none ∧
    RawEvent.checked 37 4 ⟨3, 4, 1001⟩ = none ∧ RawEvent.checked 37 4 ⟨3, 5, 0⟩ = none := by decide +kernel

/-- A full queue whose head may be taken between two good records. -/
theorem witness_ValidAnswerIsTaken_takes :
    full37.line.phase = .awaiting 37 ∧ full37.entryOf 37 = some (entry 37 4 .nothing .present 2) ∧
    RawEvent.checked 37 4 ⟨0, 0, 0⟩ = some ⟨37, 0, .press, 0⟩ ∧ RawEvent.checked 37 4 ⟨1, 0, 0⟩ = some ⟨37, 1, .press, 0⟩ ∧
    full37.part ≠ .loading ∧ full37.claims.order.any Request.heldByResolver = false ∧ full37.recallInFlight = false ∧
    full37.route.intake.length = Config.intakeMax := by decide +kernel

/-- A request of an enrolled CONFIG station, and answers of numbers without an entry. -/
theorem witness_ValidAnswerIsTaken_others :
    (withPhase (.awaiting 12) house).line.phase = .awaiting 12 ∧
    (withPhase (.awaiting 12) house).entryOf 12 = some (entry 12 8 .config .present 0) ∧
    (Instr.setMask 12 7 1).wellFormed = true ∧ ((requestForm (.setMask 12 7 1)).map (·.sender)) = some 12 ∧
    (∃ t, exec (.setMask 12 7 1) (withPhase (.awaiting 12) house) = .next t) ∧
    (withPhase (.awaiting 13) house).entryOf 13 = none ∧ answerOf 13 (answerFrame 13 0 []) = some (.events []) ∧
    13 ≠ Config.serviceStation ∧ house.line.phase = .awaiting Config.serviceStation ∧
    house.entryOf Config.serviceStation = none ∧ answerOf 250 (answerFrame 250 0 []) = some (.events []) :=
  ⟨rfl, by decide +kernel, by decide +kernel, by decide +kernel, ⟨_, rfl⟩, by decide +kernel⟩

theorem witness_MissesAreCounted :
    open37.line.phase = .awaiting 37 ∧ answerOf 37 [] = none ∧ house.line.phase = .awaiting 250 ∧ house.entryOf 250 = none ∧
    open37.entryOf 37 = some (entry 37 4 .nothing .present 2) ∧ open37.entryOf 20 = some (entry 20 8 .nothing .present 0) ∧
    missing.absenceWaiting 37 = true := by decide +kernel

/-- The answer window of a station, enrolled or not, is open, and the cycle stands at a position. -/
def cycling (station : Nat) (p : PollPosition) (count discovery : Nat) (learn : Bool) : State :=
  { house with
    line :=
      { house.line with
        roster := [entry 12 8 .config .present 0, entry 20 8 .nothing .absent 3, entry 37 4 .nothing .present 2]
        phase := .awaiting station, position := p, cycleCount := count, discovery := discovery }
    mgmt := { house.mgmt with settings := { Settings.default with learn := learn } } }

/-- From station 12 the ABSENT station 20 is passed over but in a count-0 cycle; above 37 none is left; then the probe and the cycle. -/
theorem witness_VisitsFollowTheCycle :
    (cycling 12 (.roster 12) 3 1 true).line.phase = .awaiting 12 ∧
    (cycling 12 (.roster 12) 3 1 true).line.roster.Pairwise (fun a b => a.station < b.station) ∧
    (cycling 12 (.roster 12) 3 1 true).line.roster.length ≤ Config.rosterMax ∧
    NextAbove 12 3 (entry 37 4 .nothing .present 2) (cycling 12 (.roster 12) 3 1 true) ∧
    NextAbove 12 0 (entry 20 8 .nothing .absent 3) (cycling 12 (.roster 12) 0 1 true) ∧
    NoneAbove 37 0 (cycling 37 (.roster 37) 0 1 true) ∧
    (cycling 250 .service 3 1 true).mgmt.settings.learn = true ∧
    (1 ≤ (cycling 250 .service 3 249 true).line.discovery ∧ (cycling 250 .service 3 249 true).line.discovery ≤ Config.stationMax) ∧
    (cycling 13 .probe 7 1 true).line.position = .probe ∧ (cycling 250 .service 7 1 false).mgmt.settings.learn = false ∧
    NextAbove 0 0 (entry 12 8 .config .present 0) (cycling 13 .probe 7 1 true) ∧ NoneAbove 0 0 State.reset := by
  unfold NextAbove NoneAbove; decide +kernel

/-- An answer of the station at the position, and the roster that its judgement leaves. -/
theorem witness_VisitsFollowTheCycle_answers :
    (cycling 37 (.roster 37) 3 1 true).entryOf 37 = some (entry 37 4 .nothing .present 2) ∧
    (cycling 37 (.roster 37) 3 1 true).line.position = .roster 37 ∧ 37 ≤ 37 ∧
    answerOf 37 release37 = some (.events [⟨1, 1, 0⟩]) ∧
    ((cycling 37 (.roster 37) 3 1 true).judgeFrame 37 { bytes := release37 }).line.roster.Pairwise
      (fun a b => a.station < b.station) ∧
    ((cycling 37 (.roster 37) 3 1 true).judgeFrame 37 { bytes := release37 }).line.roster.length ≤ Config.rosterMax := by
  decide +kernel

/-- A roster with no free place. -/
def fullRoster : State :=
  { house with line := { house.line with roster := (List.range 120).map fun n => entry (n + 1) 4 .nothing .present 0 } }

theorem witness_RosterEditsAreStored :
    house.takes 250 = true ∧ house.store.state = .idle ∧ privilegeOf 2 = some .config ∧ house.enrolled 249 = false ∧
    house.line.roster.length < 120 ∧ house.enrolled 37 = true ∧ fullRoster.takes 250 = true ∧
    fullRoster.enrolled 121 = false ∧ 120 ≤ fullRoster.line.roster.length ∧ privilegeOf 3 = none ∧
    (withStore (.saving 0) house).store.state ≠ .idle ∧ (withStore (.saving 0) house).takes 250 = true ∧
    house.entryOf 1 = none ∧ house.entryOf 37 ≠ none ∧ 249 < 250 := by decide +kernel

/-- A DELETE that empties the roster while line loss is declared, and two that do not. -/
theorem witness_RosterEditsAreStored_loss :
    losing.takes 250 = true ∧ losing.store.state = .idle ∧ losing.entryOf 37 = some (entry 37 4 .nothing .present 2) ∧
    (after (.delete 250 9 37) losing).line.roster = [] ∧ losing.line.lossDeclared = true ∧
    (after (.delete 250 9 37) house).line.roster ≠ [] ∧ house.line.lossDeclared = false := by decide +kernel

/-- The aisle lit by EGRESS, with line loss able to act on the same circuit. -/
def lit : State := after .egressAssertion aisle

theorem witness_SafetyWritesSetTheirSlots :
    aisle.part ≠ .loading ∧ aisle.claims.egressAsserted = false ∧ (aisle.eng 4).attr.egress = true ∧
    (aisle.eng 5).attr.egress = false ∧ lit.claims.egressAsserted = true ∧ (lit.circ 4).egress.isSome = true ∧
    (lit.circ 5).egress = none ∧ house.line.lossTimer = some 20 ∧ State.reset.line.lossTimer = none ∧
    (house.eng 4).attr.lossAction = .ignore ∧
    ((withAttr 4 { Attr.default with lossAction := .hold } house).eng 4).attr.lossAction ≠ .ignore := by decide +kernel

theorem witness_SafetyEventsLeaveTheClaims :
    Instr.egressRelease = .egressAssertion ∨ Instr.egressRelease = .egressRelease ∨ Instr.egressRelease = .lineLossTimerExpiry :=
  .inr (.inl rfl)

/-! #### Claims -/

/-- A circuit with `n` HOUSE claims, of the controls 0 and up of station 12. -/
def stacked (n : Nat) : ClaimCircuit :=
  { ClaimCircuit.empty with claims := (List.range n).map fun k => claim .house (.station 12 k) none .latched 100 0 }

/-- The house with `n` claims on circuit 5 and `free` records in the pool. -/
def pooled (n free : Nat) : State :=
  { withCircuit 4 (stacked n) house with claims := { (withCircuit 4 (stacked n) house).claims with poolFree := free } }

theorem pooled_everywhere {P : ClaimCircuit → Prop} (n free : Nat) (h0 : P .empty) (h : P (stacked n)) (c : Circuit) :
    P ((pooled n free).circ c) :=
  everywhere_withCircuit 4 h (everywhere_house h0) c

theorem pooled_closed (n free : Nat) : ∀ c : Circuit, ((pooled n free).circ c).entry = none :=
  pooled_everywhere (P := fun t => t.entry = none) n free rfl rfl

def newClaim (layer : Layer) : Claim := claim layer (.station 20 1) none .latched 300 5

theorem witness_PlacementTakesAFreeRecord :
    (∀ x ∈ ((pooled 7 1).circ 4).claims, ¬(x.layer = (newClaim .house).layer ∧ x.owner = (newClaim .house).owner)) ∧
    ((pooled 7 1).circ 4).claims.length < 8 ∧ 1 ≤ (pooled 7 1).claims.poolFree := by decide +kernel

/-- A replacement, an eviction, a refusal for a layer too low, and a refusal for an empty pool. -/
theorem witness_PlacementsReplaceEvictOrRefuse :
    ((pooled 8 1).circ 4).claims.Pairwise (fun a b => a.sameAs b = false) ∧
    (∃ x ∈ ((pooled 8 1).circ 4).claims, x.layer = Layer.house ∧ x.owner = Owner.station 12 3) ∧
    (∀ x ∈ ((pooled 8 1).circ 4).claims, ¬(x.layer = (newClaim .house).layer ∧ x.owner = (newClaim .house).owner)) ∧
    8 ≤ ((pooled 8 1).circ 4).claims.length ∧ (newClaim .work).layer.code < Layer.house.code ∧
    ((pooled 7 0).circ 4).claims.length < 8 ∧ (pooled 7 0).claims.poolFree = 0 := by decide +kernel

theorem witness_MergePicksTheHighestLayer :
    (({ circuit212 with egress := some 0 } : ClaimCircuit).egress.isSome ∨ circuit212.loss.isSome) ∧
    (circuit212.egress = none ∧ circuit212.loss = none) ∧
    (claim .house (.station 44 3) (some 7) .latched 400 30 ∈ circuit212.claims) ∧
    (∀ cl ∈ circuit212.claims, cl.layer.code ≤ Layer.house.code) ∧
    (∀ cl ∈ (ClaimCircuit.empty).claims, cl.layer = .work) := by decide +kernel

/-- An action of station 20, control 2, on circuit 212. -/
def acting (work : ClaimWork) (target : TargetRef) : ClaimAction :=
  { station := 20, control := 2, window := 8, layer := .house, work := work, target := target, feedback := .posted }

/-- The house with a claim of station 20, control 2, among five others on circuit 212. -/
def owned : State :=
  withCircuit 211
    { circuit212 with claims := list212 ++ [claim .house (.station 20 2) (some 8) .momentary 300 5] } house

theorem owned_grants (a : ClaimAction) : (asked (.claimAction a) owned).Grants (.claimAction a) [] :=
  grants_asked (by decide) rfl
    (everywhere_withCircuit (P := fun t => t.entry = none) 211 rfl (everywhere_house (P := fun t => t.entry = none) rfl))

theorem pooled_grants (n free : Nat) (r : Request) : (asked r (pooled n free)).Grants r [] :=
  grants_asked (show Part.running ≠ .loading by decide) rfl (pooled_closed n free)

/-- SET_LEVEL on a circuit with 7 claims and one record free. The other works meet the same hypotheses at `owned`. -/
theorem witness_ClaimActionsPlaceTheirClaims :
    (asked (.claimAction (acting (.setLevel 650 10) (.circuit 4))) (pooled 7 1)).Grants
      (.claimAction (acting (.setLevel 650 10) (.circuit 4))) [] ∧
    (pooled 7 1).enrolled 20 = true ∧ (pooled 7 1).targets (.circuit 4) = [4] ∧
    ((pooled 7 1).circ 4).claims.Pairwise (fun x y => x.sameAs y = false) ∧
    ((pooled 7 1).circ 4).claims.length < 8 ∧
    ([(4 : Circuit)].filter fun c => !((pooled 7 1).circ c).claims.any fun x => x.layer == .house && x.owner == .station 20 2).length ≤
      (pooled 7 1).claims.poolFree ∧ (pooled 7 1).hears 20 2 = true :=
  ⟨pooled_grants _ _ _, by decide +kernel⟩

/-- Group 5 of circuits 5 and 6. The list of circuit 5 is full of SCENE claims, which a HOUSE claim does not evict. -/
def reluctant : State :=
  withCircuit 4
    { ClaimCircuit.empty with claims := (List.range 8).map fun k => claim .scene (.station 12 k) none .latched 100 0 }
    (house.setGroup 5 [4, 5])

theorem witness_ClaimActionsPlaceTheirClaims_group :
    (∀ work, (asked (.claimAction (acting work (.group 5))) reluctant).Grants (.claimAction (acting work (.group 5))) []) ∧
    reluctant.enrolled 20 = true ∧ reluctant.targets (.group 5) = [4, 5] ∧ ([4, 5] : List Circuit).Nodup ∧
    (∀ c ∈ ([4, 5] : List Circuit), (reluctant.circ c).claims.Pairwise (fun x y => x.sameAs y = false)) ∧
    (∀ c ∈ ([4, 5] : List Circuit),
      (reluctant.circ c).claims.any (fun x => x.layer == .house && x.owner == .station 20 2) = false) ∧
    (8 ≤ (reluctant.circ 4).claims.length ∧ ∀ x ∈ (reluctant.circ 4).claims, Layer.house.code < x.layer.code) ∧
    (reluctant.circ 5).claims.length < 8 ∧ 2 ≤ reluctant.claims.poolFree ∧ reluctant.hears 20 2 = true :=
  ⟨fun _ => grants_asked (by decide) rfl (everywhere_withCircuit (P := fun t => t.entry = none) 4 rfl
    (fun c => everywhere_house (P := fun t => t.entry = none) rfl c)), by decide +kernel⟩

/-- An empty pool under a SET on a circuit with room and without a claim of its own. -/
theorem witness_ClaimActionsPlaceTheirClaims_refused :
    (asked (.claimAction (acting (.setLevel 650 10) (.circuit 4))) (pooled 7 0)).Grants
      (.claimAction (acting (.setLevel 650 10) (.circuit 4))) [] ∧
    (pooled 7 0).enrolled 20 = true ∧ (pooled 7 0).targets (.circuit 4) ≠ [] ∧ (pooled 7 0).claims.poolFree = 0 ∧
    (∀ c ∈ (pooled 7 0).targets (.circuit 4), ((pooled 7 0).circ c).claims.length < 8 ∧
      ∀ x ∈ ((pooled 7 0).circ c).claims, ¬(x.layer = Layer.house ∧ x.owner = .station 20 2)) :=
  ⟨pooled_grants _ _ _, by decide +kernel⟩

theorem witness_ClaimActionsPlaceTheirClaims_own :
    (∀ work, (asked (.claimAction (acting work (.circuit 211))) owned).Grants (.claimAction (acting work (.circuit 211))) []) ∧
    owned.enrolled 20 = true ∧ owned.absent 20 = false ∧
    (owned.circ 211).claims.Pairwise (fun x y => x.sameAs y = false) ∧
    (owned.circ 211).claims.any (fun x => x.layer == .house && x.owner == .station 20 2) = true ∧
    (pooled 7 1).circ 4 = stacked 7 ∧
    ((stacked 7).claims.any fun x => (x.layer == .house && x.owner == .station 20 2) && x.window == some 8) = false ∧
    (1000 = min 1000 (300 + 250 * 3) ∧ 299 = 300 - 1 ∧ 0 < 1 ∧ 0 = (1 * 499 + 500) / 1000 ∧ 1 = (1 * 500 + 500) / 1000) :=
  ⟨fun _ => owned_grants _, by decide +kernel⟩

/-- The owner without a roster entry, an empty group, and a press of an absent station. -/
theorem witness_ClaimActionsPlaceTheirClaims_none :
    (∀ a, (asked (.claimAction a) owned).Grants (.claimAction a) []) ∧ owned.enrolled 21 = false ∧
    owned.targets (.group 5) = [] ∧ owned.hears 20 2 = true ∧
    ({ owned with line := { owned.line with roster := [entry 20 8 .nothing .absent 3] } } : State).absent 20 = true ∧
    ({ owned with line := { owned.line with roster := [entry 20 8 .nothing .absent 3] } } : State).enrolled 20 = true :=
  ⟨owned_grants, by decide +kernel⟩

theorem witness_ClaimActionsRemoveTheirClaims :
    (∀ work, (asked (.claimAction (acting work (.circuit 211))) owned).Grants (.claimAction (acting work (.circuit 211))) []) ∧
    owned.enrolled 20 = true ∧ owned.targets (.circuit 211) ≠ [] ∧ owned.hears 20 2 = true ∧
    (owned.targets (.circuit 211)).any (fun c => (owned.circ c).claims.any fun x =>
      (x.layer == .house && x.owner == .station 20 2) && x.window == some 8) = true :=
  ⟨fun _ => owned_grants _, by decide +kernel⟩

theorem witness_RemovalGrantsRemoveTheirClaims :
    (∀ r, (asked r owned).Grants r []) ∧ owned.entryOf 20 = some (entry 20 8 .nothing .present 0) :=
  ⟨fun _ => grants_asked (by decide) rfl
    (everywhere_withCircuit (P := fun t => t.entry = none) 211 rfl (everywhere_house (P := fun t => t.entry = none) rfl)),
   by decide +kernel⟩

theorem witness_ClaimTimerCountsDown :
    expiring.part ≠ .loading ∧ Request.expiry ∉ expiring.claims.order ∧
    ∃ cl ∈ (expiring.circ 4).claims, cl.kind = .timed 1 := by decide +kernel

/-- The commands of management levels. -/
theorem witness_ManagementLevelsWaitAtTheArbiter :
    house.takes 250 = true ∧ (circuitOf 1 = some 0 ∧ circuitOf 512 = some 511 ∧ circuitOf 0 = none ∧ circuitOf 513 = none) ∧
    (layerOf 0 = some .work ∧ layerOf 2 = some .scene ∧ layerOf 3 = none) ∧ (0 : Circuit) ≤ 511 := by decide +kernel

/-- Their grants: a free record, no free record, and PERFORMANCE. -/
theorem witness_ManagementLevelsWaitAtTheArbiter_grants :
    (∀ n free r, (asked r (inProgress 250 7 (pooled n free))).Grants r []) ∧
    (inProgress 250 7 (pooled 7 1)).Awaits 250 7 ∧
    ((pooled 7 1).circ 4).claims.Pairwise (fun x y => x.sameAs y = false) ∧ (pooled 7 1).cues.mode = .work ∧
    ((pooled 7 1).circ 4).claims.length < 8 ∧ 1 ≤ (pooled 7 1).claims.poolFree ∧
    ((pooled 7 0).circ 4).claims.any (fun x => x.layer == .work && x.owner == .management) = false ∧
    (pooled 7 0).claims.poolFree = 0 ∧
    ({ house with cues := { house.cues with mode := .performance } } : State).cues.mode = .performance :=
  ⟨fun n free _ => grants_asked (show Part.running ≠ .loading by decide) rfl (pooled_closed n free), ⟨by decide +kernel, .inr rfl⟩, by decide +kernel⟩

def lastRule : CircuitFields := { circuitForm with mergeRule := 1 }

theorem witness_CircuitWritesActAtOnce :
    house.takes 250 = true ∧ circuitOf 0 = none ∧ circuitOf 512 = some 511 ∧ house.store.state = .idle ∧
    house.recallInFlight = false ∧ inFlight.recallInFlight = true ∧ (withStore (.saving 0) house).store.state ≠ .idle ∧
    attrOf { circuitForm with curve := 3 } = none ∧ attrOf circuitForm = some Attr.default ∧
    (attrOf { circuitForm with preheat := 201, topSet := 1001, switchPoint := 0, egressLevel := 1001 }).isSome = true ∧
    (attrOf lastRule).map (·.mergeRule) = some .latest ∧ (house.eng 511).attr.mergeRule = .highest ∧
    house.claims.egressAsserted = false ∧ lit.takes 250 = true ∧ lit.store.state = .idle ∧ lit.recallInFlight = false ∧
    lit.claims.egressAsserted = true := by decide +kernel

theorem witness_CircuitWritesActAtOnce_grant :
    (asked (.mergeRule 250 4 true) (inProgress 250 7 house)).Grants (.mergeRule 250 4 true) [] ∧
    (inProgress 250 7 house).Awaits 250 7 :=
  ⟨grants_asked (by decide) rfl (everywhere_house (P := fun t => t.entry = none) rfl), by decide +kernel, .inr rfl⟩

/-! #### Levels -/

theorem witness_FadesRunToTheirTargets :
    house.part ≠ .loading ∧ (house.eng 211).fadeActive = false ∧
    ((withEngine 211 published212 house).eng 211).fadeActive = true ∧ published212.fadeTaken + 1 < published212.fadeSteps ∧
    ({ published212 with fadeTaken := 149 } : EngineCircuit).fadeSteps ≤ 149 + 1 ∧ (800 : Nat) ≠ chandelier.fadeTarget ∧
    200 = chandelier.fadeTarget := by decide +kernel

theorem witness_SetMasterRecomputesItsCircuits :
    house.takes 250 = true ∧ 3 = (3 : Master).val ∧ 4 ≤ 4 ∧
    ((withEngine 211 published212 house).eng 211).attr.masterGroup = some 1 ∧
    ((withEngine 211 published212 house).eng 211).safety = false := by decide +kernel

theorem witness_OutputCodesFollowTrimsAndCurves :
    (1000 ≤ 1000 ∧ 0 ≤ 1000) ∧ ({ published212 with safety := true } : EngineCircuit).safety = true ∧
    ({ Attr.default with curve := .switched } : Attr).curve = .switched ∧ published212.safety = false ∧ published212.attr.masterGroup = some 1 ∧
    ((Vector.replicate 4 1000).set 1 0)[(1 : Master)] = 0 ∧ (EngineCircuit.initial Attr.default).level = 0 ∧
    Attr.default.curve = .linear ∧ chandelier.attr.curve = .square ∧ (attrOf circuitForm).isSome = true ∧
    Attr.default.switchPoint ≤ 500 ∧ 499 < Attr.default.switchPoint := by decide +kernel

/-! #### Route resolution -/

def taking (r : EventRecord) : State := withIntake [r] foyer

theorem witness_TakenRecordsChangeNoClaim :
    State.reset.part = .loading ∧
    ((asked (.claimAction firstPress) (taking ⟨21, 2, .press, 0⟩)).claims.order.any Request.heldByResolver) = true ∧
    inFlight.recallInFlight = true ∧ house.route.intake = [] ∧ (taking ⟨21, 2, .press, 0⟩).part ≠ .loading ∧
    (taking ⟨21, 2, .press, 0⟩).claims.order.any Request.heldByResolver = false ∧
    (taking ⟨21, 2, .press, 0⟩).recallInFlight = false ∧
    (taking ⟨21, 2, .press, 0⟩).route.intake = [⟨21, 2, .press, 0⟩] := by decide +kernel

/-- A record of a station without an entry, one that no window matches (with discovery, at a full unrouted queue), and records that
window 3 matches and refuses: a MODE window for a station without privilege, and in PERFORMANCE a window that is not show_safe and a claim
action on the WORK layer. -/
theorem witness_EventRecordsAreResolved :
    (taking ⟨22, 2, .press, 0⟩).TakesHead ⟨22, 2, .press, 0⟩ [] ∧ foyer.entryOf 22 = none ∧
    foyer.entryOf 21 = some (entry 21 8 .nothing .present 0) ∧
    (∀ i : WindowIndex, (foyer.window i).matchesRecord ⟨21, 7, .press, 0⟩ = false) ∧
    ((foyer.mgmt.settings.learn = false ∧ ({ Settings.default with learn := true } : Settings).learn = true) ∧
      16 ≤ ((List.range 16).map fun k => (⟨k, 0, .newStation⟩ : Unrouted)).length) ∧
    (∀ w ∈ [{ window3 with action := .mode .toggle }, { window3 with showSafe := false }, { window3 with layer := .work }],
      (withWindow 3 w foyer).window 3 = w ∧ w.matchesRecord ⟨21, 2, .press, 0⟩ = true) ∧
    (∀ j : WindowIndex, j < 3 → (foyer.window j).matchesRecord ⟨21, 2, .press, 0⟩ = false) := by
  unfold State.TakesHead; decide +kernel

/-- In WORK no window but a MODE or CUE window refuses a record. -/
theorem not_refuses {s : State} {w : Window} {r : EventRecord} {e : RosterEntry} (hm : s.cues.mode = .work)
    (ho : ∀ op, w.action ≠ .mode op) (hx : ∀ x, w.action ≠ .cue x) : ¬s.Refuses w r e := by
  rintro (⟨⟨op, h⟩ | ⟨x, h⟩, -⟩ | ⟨h, -⟩)
  · exact ho op h
  · exact hx x h
  · rw [hm] at h; cases h

/-- Window 3 in WORK with each kind of action, target and apply point: each matches the press of control 2 of station 21, and none refuses
it. -/
theorem witness_EventRecordsAreResolved_actions :
    (taking ⟨21, 2, .press, 0⟩).TakesHead ⟨21, 2, .press, 0⟩ [] ∧ foyer.cues.mode = .work ∧ foyer.hears 21 2 = true ∧
    (∀ w ∈ [window3, { window3 with action := .toggle, target := .group 5 }, { window3 with action := .momentary, apply := .cueA },
        { window3 with action := .clear, apply := .cueA }, { window3 with action := .scene 6 },
        { window3 with action := .sceneOff, apply := .cueB }, { window3 with target := .none },
        { window3 with target := .offset 506 }],
      (withWindow 3 w foyer).window 3 = w ∧ w.matchesRecord ⟨21, 2, .press, 0⟩ = true) ∧
    (∀ j : WindowIndex, j < 3 → (foyer.window j).matchesRecord ⟨21, 2, .press, 0⟩ = false) ∧
    circuitNumber 106 = circuitNumber 100 + (21 - window3.stationFirst) * window3.rowPitch + (2 - window3.controlFirst) ∧
    circuitNumber 511 = circuitNumber 505 + (21 - window3.stationFirst) * window3.rowPitch + (2 - window3.controlFirst) ∧
    512 < circuitNumber 506 + (21 - window3.stationFirst) * window3.rowPitch + (2 - window3.controlFirst) ∧
    ({ window3 with action := .master 3, target := .none } : Window).matchesRecord ⟨21, 2, .value, 1000⟩ = true ∧
    ({ window3 with action := .fader } : Window).matchesRecord ⟨21, 2, .value, 0⟩ = true ∧
    ({ window3 with action := .momentary } : Window).matchesRecord ⟨21, 2, .release, 0⟩ = true := by
  unfold State.TakesHead; decide +kernel

/-- The works, the cues and the refusals of windows, for a record that window 3 matches. -/
theorem witness_EventRecordsAreResolved_words :
    window3.WorkIs ⟨21, 2, .press, 0⟩ (.setLevel 850 20) ∧ foyer.DefersTo window3 = none ∧
    foyer.DefersTo { window3 with action := .clear, apply := .cueA } = some .a ∧
    (State.DefersTo window3
      { foyer with
        cues := { foyer.cues with mode := .performance }
        mgmt := { foyer.mgmt with settings := { Settings.default with houseToCue := true } } } = some .b) ∧
    ¬foyer.Refuses window3 ⟨21, 2, .press, 0⟩ (entry 21 8 .nothing .present 0) ∧
    ¬foyer.Refuses { window3 with action := .scene 6 } ⟨21, 2, .press, 0⟩ (entry 21 8 .nothing .present 0) ∧
    foyer.Refuses { window3 with action := .mode .toggle } ⟨21, 2, .press, 0⟩ (entry 21 8 .nothing .present 0) ∧
    State.Refuses { window3 with layer := .work } ⟨21, 2, .press, 0⟩ (entry 21 8 .nothing .present 0)
      { foyer with cues := { foyer.cues with mode := .performance } } :=
  ⟨.inl ⟨rfl, rfl⟩, rfl, rfl, by decide +kernel, not_refuses rfl nofun nofun, not_refuses rfl nofun nofun,
    .inl ⟨.inl ⟨_, rfl⟩, rfl⟩, .inr ⟨rfl, nofun, nofun, .inr ⟨trivial, rfl⟩⟩⟩

/-- A MODE and a CUE window for a station with privilege, the pin, and pending lists with room, with an equal record, and full. -/
theorem witness_EventRecordsAreResolved_others :
    (∀ w ∈ [{ window3 with action := .mode .toggle }, { window3 with action := .cue .b }],
      (withWindow 3 w foyer).window 3 = w ∧ w.matchesRecord ⟨21, 2, .press, 0⟩ = true) ∧
    ¬foyer.Refuses { window3 with action := .mode .toggle } ⟨21, 2, .press, 0⟩ (entry 21 8 .show .present 0) ∧
    ¬foyer.Refuses { window3 with action := .cue .b } ⟨21, 2, .press, 0⟩ (entry 21 8 .show .present 0) ∧
    foyer.cues.pin = false ∧ pinned.cues.pin = true ∧ foyer.cues.pendings.length < 32 ∧
    deferred.sameAs { deferred with feedback := .confirmed } = true ∧
    (32 ≤ ((List.range 32).map fun k => { deferred with control := k }).length ∧
      (((List.range 32).map fun k => { deferred with control := k }).any fun q => q.sameAs { deferred with station := 20 }) = false) ∧
    (Request.release ⟨12, 3, .posted⟩).windowAsker = some ⟨12, 3, .posted⟩ := by
  refine ⟨by decide +kernel, ?_, ?_, by decide +kernel⟩ <;>
    · rintro (⟨-, h⟩ | ⟨h, -⟩) <;> cases h

/-! #### Scenes -/

theorem sceneHouse_everywhere {P : ClaimCircuit → Prop} (h0 : P .empty)
    (h2 : P { ClaimCircuit.empty with
      claims := [claim .scene .scenePlayer none .latched 400 30], target := 400, winner := .scene })
    (h3 : P { ClaimCircuit.empty with
      claims := [claim .scene .scenePlayer none .latched 300 30], target := 300, winner := .scene }) :
    ∀ c, P (sceneHouse.circ c) :=
  everywhere_withCircuit 2 h2 (everywhere_withCircuit 3 h3 (everywhere_house h0))

theorem sceneHouse_grants (r : Request) : (asked r sceneHouse).Grants r [] :=
  grants_asked (by decide) rfl (sceneHouse_everywhere (P := fun t => t.entry = none) rfl rfl rfl)

theorem witness_RecallsRunInTheirSet :
    (asked (.recall 6 none) sceneHouse).Grants (.recall 6 none) [] ∧
    (∀ c : Circuit, (sceneHouse.circ c).claims.Pairwise (fun a b => a.sameAs b = false)) ∧
    sceneHouse.player.scenes[(6 : SceneNo)].entries.Pairwise (fun a b => a.circuit < b.circuit) ∧
    sceneHouse.player.scenes[(6 : SceneNo)].entries.length ≤ sceneHouse.claims.poolFree ∧
    (∀ e ∈ sceneHouse.player.scenes[(6 : SceneNo)].entries, (sceneHouse.circ e.circuit).claims.length < 8) ∧
    (∀ e ∈ sceneHouse.player.scenes[(6 : SceneNo)].entries, e.circuit ≠ 2) :=
  ⟨sceneHouse_grants _,
    sceneHouse_everywhere (P := fun t => t.claims.Pairwise (fun a b => a.sameAs b = false)) (by decide) (by decide) (by decide),
    by decide +kernel⟩

/-- A completion with an asker, and a recall that the empty pool refuses. -/
theorem witness_RecallsRunInTheirSet_others :
    inFlight.claims.openSet = some (.recall ⟨6, scene7, none, false⟩) ∧ inFlight.hears 12 3 = true ∧
    (∀ r, (asked r ((pooled 7 0).setScene 6 scene7)).Grants r []) ∧
    (((pooled 7 0).setScene 6 scene7).player.scenes[(6 : SceneNo)].entries = ⟨3, 600⟩ :: [⟨5, 500⟩]) ∧
    ((pooled 7 0).setScene 6 scene7).claims.poolFree = 0 ∧
    (∀ c : Circuit, ∀ cl ∈ (((pooled 7 0).setScene 6 scene7).circ c).claims, cl.layer ≠ .scene) ∧
    (((pooled 7 0).setScene 6 scene7).circ 3).claims.length < 8 := by
  refine ⟨rfl, by decide +kernel, fun r => grants_asked (by decide) rfl (pooled_closed 7 0), by decide +kernel,
    by decide +kernel, ?_, by decide +kernel⟩
  exact pooled_everywhere (P := fun t => ∀ cl ∈ t.claims, cl.layer ≠ .scene) 7 0 (by decide) (by decide)

theorem witness_ReleasesClearTheSceneLayer :
    (asked (.release ⟨12, 3, .posted⟩) sceneHouse).Grants (.release ⟨12, 3, .posted⟩) [] ∧ sceneHouse.hears 12 3 = true :=
  ⟨sceneHouse_grants _, by decide +kernel⟩

theorem witness_CapturesReadTheClaims :
    house.takes 250 = true ∧ (sceneOf 0 = none ∧ sceneOf 97 = none ∧ sceneOf 1 = some 0 ∧ sceneOf 96 = some 95) ∧
    (withStore (.saving 0) house).store.state ≠ .idle ∧ inFlight.recallInFlight = true ∧ house.store.state = .idle ∧
    house.recallInFlight = false := by decide +kernel

/-- Every scene place in use but those of scene 96. -/
def crowded : State :=
  { sceneHouse with
    player :=
      { sceneHouse.player with
        scenes := Vector.ofFn fun n : Fin 96 =>
          { fade := 0, entries := if n.val < 16 then (List.finRange 512).map fun c => ⟨c, 1⟩ else [] } } }

theorem crowded_closed (c : Circuit) : (crowded.circ c).entry = none := by
  have e : crowded.claims = sceneHouse.claims := by unfold crowded; rfl
  unfold State.circ; rw [e]
  exact sceneHouse_everywhere (P := fun t => t.entry = none) rfl rfl rfl c

/-- Scene 7 named by a pending record, and by a record that a waiting cue has taken. -/
def naming (s : State) : State := s.setPendings [{ deferred with work := .scene 6 }]

def takenScene (s : State) : State := asked (.cue .b [{ deferred with work := .scene 6 }] []) s

/-- Grants of a capture: the scene named or not, room for the entries, and no room. -/
theorem witness_CapturesReadTheClaims_grants :
    (∀ r, (asked r (inProgress 250 7 sceneHouse)).Grants r []) ∧ (inProgress 250 7 sceneHouse).Awaits 250 7 ∧
    sceneHouse.cues.pendings = [] ∧ (∀ x records fires, Request.cue x records fires ∉ (asked (.capture 250 6) house).claims.order) ∧
    (∃ p : Pending, p.work = .scene 6 ∧ p ∈ (naming house).cues.pendings) ∧
    (∃ p : Pending, p.work = .scene 6 ∧ ∃ x records fires, Request.cue x records fires ∈ (takenScene house).claims.order ∧
      p ∈ records) ∧
    sceneHouse.scenePlacesUsed = 2 ∧ 512 + sceneHouse.scenePlacesUsed ≤ 8192 + 2 ∧ sceneHouse.scenePlacesUsed ≤ 8192 ∧
    (∀ r, (asked r (inProgress 250 7 crowded)).Grants r []) ∧ crowded.cues.pendings = [] ∧
    (8192 - crowded.scenePlacesUsed + crowded.player.scenes[(95 : SceneNo)].entries.length = 0) ∧
    0 < (mergeCircuit crowded.cues.mode (crowded.eng 2).attr.mergeRule
      { crowded.circ 2 with egress := none, loss := none }).1 :=
  have h := sceneHouse_everywhere (P := fun t => t.entry = none) rfl rfl rfl
  ⟨fun _ => grants_asked (by decide) rfl h, ⟨by decide +kernel, .inr rfl⟩, rfl, fun _ _ _ h => by simp [asked] at h,
    ⟨{ deferred with work := .scene 6 }, rfl, .head _⟩, ⟨{ deferred with work := .scene 6 }, rfl, _, _, _, .head _, .head _⟩,
    by decide +kernel, by decide +kernel, by decide +kernel, fun _ => grants_asked (by decide) rfl crowded_closed, rfl,
    by decide +kernel, by decide +kernel⟩

theorem witness_SceneEditsAreStored :
    sceneHouse.takes 250 = true ∧ sceneOf 0 = none ∧ sceneOf 96 = some 95 ∧ sceneHouse.store.state = .idle ∧
    sceneHouse.recallInFlight = false ∧ inFlight.recallInFlight = true ∧ inFlight.takes 250 = true ∧
    (withStore (.saving 0) house).store.state ≠ .idle ∧ (withStore (.saving 0) house).takes 250 = true ∧
    (∀ p ∈ sceneHouse.cues.pendings ++ sceneHouse.takenRecords, p.work ≠ .scene 6) ∧
    ((naming house).store.state = .idle ∧ (naming house).recallInFlight = false ∧ (naming house).takes 250 = true ∧
      ∃ p ∈ (naming house).cues.pendings ++ (naming house).takenRecords, p.work = .scene 6) ∧
    (∃ p ∈ (takenScene house).cues.pendings ++ (takenScene house).takenRecords, p.work = .scene 6) ∧
    circuitOf 0 = none ∧ circuitOf 512 = some 511 ∧
    (∃ e ∈ sceneHouse.player.scenes[(6 : SceneNo)].entries, e.circuit = 5) ∧ sceneHouse.scenePlacesUsed < 8192 ∧
    sceneHouse.player.scenes[(6 : SceneNo)].entries.Pairwise (fun a b => a.circuit < b.circuit) ∧
    (∀ e ∈ crowded.player.scenes[(95 : SceneNo)].entries, e.circuit ≠ 0) ∧ 8192 ≤ crowded.scenePlacesUsed ∧
    crowded.takes 250 = true := by decide +kernel

/-! #### Cues and show mode -/

def waitingCue : State := asked (.cue .b [deferred] [⟨250, 1⟩]) cueHouse

theorem witness_CueEventsTakeTheirRecords :
    cueHouse.part ≠ .loading ∧ cueHouse.cueContact .b = false ∧
    (after (.cueInputDebounced .b true) cueHouse).cueContact .b = true ∧
    cueHouse.cues.pendings.filter (fun p => p.cue == .a) = [] ∧ cueHouse.cues.pendings.filter (fun p => p.cue == .b) ≠ [] ∧
    (∀ q ∈ cueHouse.claims.order, q.isCue .b = false) ∧ waitingCue.claims.order = [] ++ .cue .b [deferred] [⟨250, 1⟩] :: [] ∧
    (∀ q ∈ ([] ++ [] : List Request), q.isCue .b = false) ∧ waitingCue.cues.pendings.filter (fun p => p.cue == .b) ≠ [] ∧
    cueHouse.takes 250 = true ∧ waitingCue.takes 250 = true ∧ waitingCue.part ≠ .loading ∧
    waitingCue.cueContact .b = false ∧ (cueCode .a = 0 ∧ cueCode .b = 1 ∧ 2 ≤ 2) := by decide +kernel

theorem witness_CuesApplyAndComplete :
    house.part ≠ .loading ∧ house.claims.openSet = none ∧
    ((asked (.cue .b [deferred, { deferred with station := 20 }] [⟨250, 2⟩]) house).claims.order =
      .cue .b (deferred :: [{ deferred with station := 20 }]) [⟨250, 2⟩] :: []) ∧
    house.enrolled 12 = true ∧ house.enrolled 21 = false ∧ deferred.work = .claim .house (.setLevel 500 3) (.circuit 4) ∧
    house.targets (.group 5) = [] := by decide +kernel

/-- A group with a circuit that the owner holds already and one with room, a lit TOGGLE, and the scenes of the house. -/
theorem witness_CuesApplyAndComplete_works :
    (house.setGroup 5 [4, 5]).targets (.group 5) = [4, 5] ∧ ([4, 5] : List Circuit).Nodup ∧
    (∀ c ∈ ([4, 5] : List Circuit), ((pooled 7 2).circ c).claims.Pairwise (fun y z => y.sameAs z = false) ∧
      ((pooled 7 2).circ c).claims.length < 8) ∧ 2 ≤ (pooled 7 2).claims.poolFree ∧
    ((pooled 7 2).circ 4).claims.any (fun y => y.layer == .house && y.owner == .station 12 2) = true ∧
    (owned.targets (.circuit 211)).any (fun c => (owned.circ c).claims.any fun y =>
      (y.layer == .house && y.owner == .station 20 2) && y.window == some 8) = true ∧
    sceneHouse.player.scenes[(6 : SceneNo)].entries.Pairwise (fun a b => a.circuit < b.circuit) ∧
    sceneHouse.player.scenes[(6 : SceneNo)].entries.length ≤ sceneHouse.claims.poolFree ∧
    (∀ c : Circuit, (sceneHouse.circ c).claims.Pairwise (fun a b => a.sameAs b = false)) ∧
    (∀ e ∈ sceneHouse.player.scenes[(6 : SceneNo)].entries, (sceneHouse.circ e.circuit).claims.length < 8) :=
  ⟨by decide +kernel, by decide, by decide +kernel, by decide, by decide +kernel, by decide +kernel, by decide +kernel,
    by decide +kernel,
    sceneHouse_everywhere (P := fun t => t.claims.Pairwise (fun a b => a.sameAs b = false)) (by decide) (by decide) (by decide),
    by decide +kernel⟩

def openCue (refused : Bool) : State :=
  { inProgress 250 9 house with
    claims :=
      { house.claims with
        openSet := some (.cue { cue := .b, records := [⟨deferred, .applied refused [4]⟩], fires := [⟨250, 1⟩] }) } }

/-- A completion: one record alone, POSTED or CONFIRMED, the last of a control, and a FIRE_CUE that nobody shares. -/
theorem witness_CuesApplyAndComplete_close :
    (∀ refused, (openCue refused).claims.openSet =
      some (.cue { cue := .b, records := [⟨deferred, .applied refused [4]⟩], fires := [⟨250, 1⟩] })) ∧
    (openCue false).hears deferred.station deferred.control = true ∧ deferred.feedback = .posted ∧
    (openCue false).Awaits 250 9 ∧
    ([⟨deferred, .applied false [4]⟩] = [] ++ (⟨deferred, .applied false [4]⟩ : Applied) :: []) ∧
    (∀ g ∈ [(⟨250, 1⟩ : Fire)], g.station = 250 → g = ⟨250, 1⟩) ∧
    ({ deferred with feedback := .confirmed } : Pending).feedback = .confirmed :=
  ⟨fun _ => rfl, by decide +kernel, rfl, ⟨by decide +kernel, .inr rfl⟩, rfl, by decide, rfl⟩

theorem witness_PendingRecordsAreCleared :
    cueHouse.takes 250 = true ∧ 3 ≤ 3 ∧ (2 < 3 ∧ deferred ∈ cueHouse.cues.pendings) ∧
    (1 < 3 ∧ cueCode deferred.cue = 1) ∧ cueHouse.hears deferred.station deferred.control = true := by decide +kernel

theorem witness_ModeChangesAreGranted :
    house.takes 250 = true ∧ (1 = Mode.performance.code ∧ 0 = Mode.work.code ∧ 1 < 2) ∧
    (asked (.modeSet 250 .performance) (inProgress 250 9 house)).Grants (.modeSet 250 .performance) [] ∧
    (inProgress 250 9 house).Awaits 250 9 ∧
    (asked (.modeAction .toggle 12 3) house).Grants (.modeAction .toggle 12 3) [] ∧ house.cues.pin = false ∧
    pinned.cues.pin = true ∧ house.hears 12 3 = true :=
  ⟨by decide +kernel, by decide, grants_asked (by decide) rfl (everywhere_house (P := fun t => t.entry = none) rfl),
    ⟨by decide +kernel, .inr rfl⟩, grants_house _, rfl, rfl, by decide +kernel⟩

/-! #### The loop -/

theorem witness_LoopFramesFallDueAndAreSent :
    State.reset.part ≠ .running ∧ house.part = .running ∧ (∃ d ∈ scheduled.loop.waiting, d.kind = .status) ∧
    (∀ d ∈ house.loop.waiting, d.kind ≠ .status) ∧ house.loop.waiting = [] ∧
    (after .frameTransmitStart scheduled).loop.transmitter ≠ none ∧
    2 ≤ (house.withLoop { house.loop with
      outstanding := [⟨.level, 0, 1, codes 0, true⟩, ⟨.level, 1, 2, codes 0, true⟩] }).loop.outstanding.length ∧
    scheduled.part = .running ∧ scheduled.loop.waiting = ⟨.level, 0⟩ :: [⟨.status, 0⟩] ∧ scheduled.loop.transmitter = none ∧
    (waitingFrame 2 41).loop.outstanding.length < 2 := by decide +kernel

/-- The frame that the house waits for, as it was sent. -/
def sent41 : List Bool := LoopFrame.bits ⟨.level, 2, 41, codes 1475⟩

theorem witness_LoopReturnsAreJudged :
    house.loop.outstanding = [] ∧ (waitingFrame 2 41).part = .running ∧
    (waitingFrame 2 41).loop.outstanding = ⟨.level, 2, 41, codes 1475, true⟩ :: [] ∧ (codes 1475).length = 128 ∧
    (LoopFrame.bits ⟨.level, 3, 41, codes 1475⟩).take 24 ≠ sent41.take 24 ∧ segmentOf 256 = 2 ∧ segmentOf 383 = 2 ∧
    24 + 17 * ((383 : Circuit).val % 128) + 17 ≤ 2216 ∧ (24 ≤ 24 ∧ 2215 < 2216) := by decide +kernel

theorem set_not_ne {l : List Bool} {i : Nat} (h : i < l.length) : l.set i (!l[i]) ≠ l := fun e => by
  have := congrArg (·[i]?) e
  simp [h] at this

theorem sent41_length : sent41.length = 2216 := by decide +kernel

/-- The frame sent, with the last bit of its CRC changed. -/
theorem witness_LoopReturnsAreJudged_crc : ∃ bits : List Bool, bits.take 2200 = sent41.take 2200 ∧ bits.take 2216 ≠ sent41 :=
  have h : 2215 < sent41.length := by rw [sent41_length]; decide
  ⟨sent41.set 2215 (!sent41[2215]), List.take_set_of_le (by decide), by
    rw [List.take_of_length_le (by rw [List.length_set, sent41_length])]; exact set_not_ne h⟩


/-- The last slot of segment 2 with one bit changed, and with two. -/
theorem witness_LoopReturnsAreJudged_slots :
    (sent41.set 2183 true).take 2183 = sent41.take 2183 ∧ 2183 + 17 ≤ (sent41.set 2183 true).length ∧
    ((sent41.set 2183 true).drop 2183 |>.take 17).count true % 2 = 0 ∧
    (((sent41.set 2183 true).set 2184 true).drop 2183 |>.take 17).count true % 2 = 1 ∧
    (((sent41.set 2183 true).set 2184 true).drop 2183).take 17 ≠ (sent41.drop 2183).take 17 :=
  ⟨List.take_set_of_le (Nat.le_refl _), by decide +kernel⟩

theorem codes_good {v : Word} (h : v ∈ codes 5) : v.toNat ≤ 5 := by
  rw [List.eq_of_mem_replicate h]; decide

/-- Every value at 5, and the last one above it. -/
theorem witness_StatusReturnsAreWritten :
    status43.part = .running ∧ status43.loop.outstanding = ⟨.status, 0, 43, [], true⟩ :: [] ∧ (codes 5).length = 128 ∧
    (∀ v ∈ codes 5, v.toNat ≤ 5) ∧ segmentOf 127 = 0 ∧ ((codes 5).set 127 6).length = 128 ∧
    (∀ v ∈ ((codes 5).set 127 6).take 127, v.toNat ≤ 5) ∧ (∀ v ∈ ((codes 5).set 127 6)[127]?, 5 < v.toNat) := by
  refine ⟨rfl, rfl, rfl, fun _ => codes_good, rfl, rfl, fun v h => ?_, fun v h => ?_⟩
  · rw [List.take_set_of_le (Nat.le_refl _)] at h; exact codes_good (List.mem_of_mem_take h)
  · have e : ((codes 5).set 127 6)[127]? = some 6#16 := rfl
    rw [e] at h; cases h; decide

/-- The good STATUS frame that `status43` waits for. -/
def good43 : List Bool := LoopFrame.bits ⟨.status, 0, 43, codes 5⟩

theorem good43_length : good43.length = 2216 := by decide +kernel

/-- A timeout before and after the end of the frame, another header, cuts, and the last bit of the CRC changed. -/
theorem witness_StatusReturnsAreWritten_failures :
    (⟨.status, 0, 43, [], false⟩ : Outstanding).ended = false ∧ (⟨.status, 0, 43, [], true⟩ : Outstanding).ended = true ∧
    (LoopFrame.bits ⟨.status, 0, 44, codes 5⟩).take 24 ≠ good43.take 24 ∧ (24 ≤ 24 ∧ 2215 < 2216) ∧
    ∃ bits : List Bool, bits.take 2200 = good43.take 2200 ∧ bits.take 2216 ≠ good43 :=
  have h : 2215 < good43.length := by rw [good43_length]; decide
  ⟨rfl, rfl, by decide +kernel, by decide, good43.set 2215 (!good43[2215]), List.take_set_of_le (by decide), by
    rw [List.take_of_length_le (by rw [List.length_set, good43_length])]; exact set_not_ne h⟩

/-- The last slot with an even number of ones, and with the value 6. -/
theorem witness_StatusReturnsAreWritten_slots :
    (good43.take 2183 ++ List.replicate 17 false).take 2183 = good43.take 2183 ∧
    2183 + 17 ≤ (good43.take 2183 ++ List.replicate 17 false).length ∧
    (((good43.take 2183 ++ List.replicate 17 false).drop 2183).take 17).count true % 2 = 0 ∧
    5 < (6#16).toNat ∧ (slotBits 6#16).length = 17 :=
  have h : (good43.take 2183).length = 2183 := by rw [List.length_take, good43_length]; rfl
  ⟨List.take_left' h, by rw [List.length_append, h]; decide, by rw [List.drop_left' h]; decide, by decide, by decide⟩

/-! #### Feedback -/

def waitFor (w : SegmentWait) : Confirmation := { station := 12, control := 3, segments := [w] }

def confirming (w : SegmentWait) : State :=
  { house with feedback := { house.feedback with confirmations := [waitFor w] } }

theorem witness_ConfirmationsWaitForTheirFrames :
    house.hears 12 3 = true ∧ ([4] : List Circuit) ≠ [] ∧ house.part = .running ∧
    ({ house with part := .unconfigured } : State).hears 12 3 = true ∧
    ((List.range 15).map fun k => ({ station := 20, control := k, segments := [] } : Confirmation)).length < 16 ∧
    (∀ r ∈ house.feedback.confirmations, ¬(r.station = 12 ∧ r.control = 3)) := by decide +kernel

theorem witness_ConfirmationsWaitForTheirFrames_reports :
    ∀ pass failures, (confirming ⟨2, pass, .waiting, failures⟩).feedback.confirmations.Pairwise
        (fun a b => ¬(a.station = b.station ∧ a.control = b.control)) ∧
      waitFor ⟨2, pass, .waiting, failures⟩ ∈ (confirming ⟨2, pass, .waiting, failures⟩).feedback.confirmations ∧
      (confirming ⟨2, pass, .waiting, failures⟩).hears 12 3 = true ∧ (2 : Segment) ≠ 3 ∧
      ((0 : Nat) < 1 ∧ (1 : Nat) < 2 ∧ (2 : Nat) ≤ 2) :=
  fun _ _ => ⟨by simp [confirming], by simp [confirming], by rfl, by decide, by decide⟩

/-- A record of two segments, one of them SATISFIED, at the third failure of the other and at an intact frame of it. -/
def confirming2 (failures : Nat) : State :=
  { house with
    feedback :=
      { house.feedback with
        confirmations :=
          [{ station := 12, control := 3, segments := [⟨1, 0, .satisfied, 0⟩, ⟨2, 0, .waiting, failures⟩] }] } }

theorem witness_ConfirmationsWaitForTheirFrames_several :
    (confirming2 2).feedback.confirmations.Pairwise (fun a b => ¬(a.station = b.station ∧ a.control = b.control)) ∧
    (confirming2 2).hears 12 3 = true ∧
    (((confirming2 2).levelReport 2 false).shotOf 12 3 = some false ∧
      ((confirming2 2).levelReport 2 true).shotOf 12 3 = some true ∧
      ((confirming2 1).levelReport 2 false).feedback.confirmations.length = 1) ∧
    (16 ≤ ((List.range 16).map fun k => ({ station := 20, control := k, segments := [] } : Confirmation)).length) := by
  decide +kernel

/-- A control with an ACK, with a NACK, waiting for its cue, and with a claim on circuit 5. -/
theorem witness_IndicatorCodesFollowTheState :
    house.hears 12 8 = false ∧ house.hears 12 7 = true ∧ (house.outcome 12 7 true).shotOf 12 7 = some true ∧
    (house.outcome 12 7 false).shotOf 12 7 = some false ∧ cueHouse.shotOf 12 2 = none ∧
    (∃ p ∈ cueHouse.cues.pendings ++ cueHouse.takenRecords, p.station = 12 ∧ p.control = 2) ∧
    (owned.shotOf 20 2 = none ∧ owned.cues.pendings ++ owned.takenRecords = [] ∧ owned.feedback.confirmations = []) ∧
    ∃ cl ∈ (owned.circ 211).claims, cl.owner = .station 20 2 := by decide +kernel

/-! #### Store and management -/

theorem witness_StoreOperationsEnd :
    house.takes 250 = true ∧ (withStore (.saving 0) house).takes 250 = true ∧
    (withStore (.saving 0) house).store.state ≠ .idle ∧ house.store.state = .idle ∧ house.mgmt.restartSet = [] ∧
    (after (.restart 12 1) house).mgmt.restartSet ≠ [] ∧ (6 ≤ 6 ∧ 5 = (5 : SectionNo).val) ∧
    (withStore (.saving 5) house).store.state = .saving 5 ∧
    crc16 (overlaid (readBackOf [[1#8]] 0) ((withStore (.saving 5) house).tables.content 0)) ≠
      crc16 ((withStore (.saving 5) house).tables.content 0) := by decide +kernel

def verifying : State := withStore (.verifying 250 1 0xFFFF#16) (inProgress 250 9 house)

theorem witness_StoreOperationsEnd_verify :
    verifying.store.state = .verifying 250 1 0xFFFF#16 ∧ verifying.Awaits 250 9 ∧
    verifying.store.image[(1 : SectionNo)] = .erased ∧
    ({ verifying.store with image := Vector.replicate 6 (.stored [1#8] 0#16) } : StoreBlock).image[(1 : SectionNo)] =
      .stored [1#8] 0#16 := ⟨rfl, ⟨by decide +kernel, .inr rfl⟩, by decide +kernel, by decide +kernel⟩

theorem witness_ReadsAnswerAndChangeNothing :
    house.takes 250 = true ∧ (10 ≤ 10 ∧ 249 < 250 ∧ 63 < 64 ∧ 96 < 97 ∧ 511 < 512 ∧ 512 < 513 ∧ 3 < 4 ∧ 31 < 32) ∧
    (1 ≤ 249 ∧ 249 ≤ 249) ∧ 63 = (63 : WindowIndex).val ∧ 63 = (63 : GroupNo).val ∧ 96 = sceneNumber 95 ∧
    512 = circuitNumber 511 ∧ 3 = (3 : Segment).val ∧ house.mgmt.unrouted = [] ∧
    (house.offerUnrouted ⟨21, 0, .newStation⟩).mgmt.unrouted = ⟨21, 0, .newStation⟩ :: [] := by decide +kernel

theorem witness_FlagsAndMasksDriveFault :
    house.takes 250 = true ∧ house.store.state = .idle ∧ (withStore (.saving 0) house).takes 250 = true ∧
    (withStore (.saving 0) house).store.state ≠ .idle ∧ (house.report .loopOpen).flagSet .loopOpen = true := by decide +kernel

theorem witness_SettingsAndRestartAreTaken :
    house.takes 250 = true ∧ house.store.state = .idle ∧ (withStore (.saving 0) house).store.state ≠ .idle ∧
    (96 < 97 ∧ 1 < 2) ∧ (96 ≤ 96 ∧ 1 ≤ 1) := by decide +kernel

theorem witness_WindowsAreWrittenDisabled :
    foyer.takes 250 = true ∧ 64 ≤ 64 ∧ (withStore (.saving 0) foyer).takes 250 = true ∧
    (withStore (.saving 0) foyer).store.state ≠ .idle ∧ foyer.store.state = .idle ∧ foyer.recallInFlight = false ∧
    (foyer.window 3).enabled = true ∧ (foyer.window 63).enabled = false ∧
    windowOf false { windowForm with stationLast := 250 } = none ∧ windowOf false { windowForm with showSafe := 2 } = none ∧
    (windowOf false { windowForm with action := 9, argument := 96, targetKind := 0, targetArg := 512 }).isSome = true ∧
    windowOf false { windowForm with action := 9, argument := 97 } = none ∧
    windowOf false { windowForm with targetKind := 0, targetArg := 513 } = none ∧ (windowOf false windowForm).isSome = true ∧
    (withWindow 42 window3 cueHouse).takes 250 = true ∧ (withWindow 42 window3 cueHouse).store.state = .idle ∧
    (withWindow 42 window3 cueHouse).recallInFlight = false ∧ ((withWindow 42 window3 cueHouse).window 42).enabled = true ∧
    (deferred ∈ (withWindow 42 window3 cueHouse).cues.pendings ∧ deferred.window = 42) ∧
    (withWindow 42 window3 cueHouse).hears deferred.station deferred.control = true := by decide +kernel

/-- The house with every group place in use. -/
def grouped : State :=
  { house with
    route := { house.route with groups := Vector.ofFn fun g : Fin 64 => if g.val < 32 then (List.range 32).map (Fin.ofNat 512) else [] } }

theorem witness_GroupMembersAreEdited :
    house.takes 250 = true ∧ (64 ≤ 64 ∧ 63 = (63 : GroupNo).val ∧ 512 = circuitNumber 511 ∧ 512 < 513) ∧
    (withStore (.saving 0) house).takes 250 = true ∧ (withStore (.saving 0) house).store.state ≠ .idle ∧
    house.store.state = .idle ∧ house.recallInFlight = false ∧ (511 : Circuit) ∉ house.route.groups[(63 : GroupNo)] ∧
    (house.route.groups[(63 : GroupNo)]).length < 32 ∧ house.groupPlacesUsed < 1024 ∧
    (house.route.groups[(63 : GroupNo)]).Pairwise (· < ·) ∧ grouped.takes 250 = true ∧
    (0 : Circuit) ∈ grouped.route.groups[(5 : GroupNo)] ∧ (511 : Circuit) ∉ grouped.route.groups[(5 : GroupNo)] ∧
    32 ≤ (grouped.route.groups[(5 : GroupNo)]).length ∧ (511 : Circuit) ∉ grouped.route.groups[(63 : GroupNo)] ∧
    1024 ≤ grouped.groupPlacesUsed := by decide +kernel

end Sys2Proof.Tests
end

section
/-! SUPPORT. What the laws of the slots, of the roster and of absence read of a state, and the operations that leave it as it was. -/

namespace Sys2Proof.Machine

/-! ### What the laws read -/

/-- A roster entry apart from its reply slot. -/
def RosterEntry.unslotted (e : RosterEntry) : RosterEntry := { e with slot := none }

/-- The station of an absence request. -/
def Request.absentee : Request → Option Nat
  | .absence n => some n
  | _ => none

/-- The stations whose absence requests wait, oldest first. -/
def State.absentees (s : State) : List Nat := s.claims.order.filterMap Request.absentee

/-- What the slot laws and the roster law read of a state. -/
structure LawView where
  part : Part
  asserted : Bool
  declared : Bool
  egress : Circuit → Option Nat
  loss : Circuit → Option Nat
  attrs : Circuit → Attr
  roster : List RosterEntry
  absentees : List Nat

/-- The part of a state that the slot laws and the roster law read. -/
def State.lawView (s : State) : LawView where
  part := s.part
  asserted := s.claims.egressAsserted
  declared := s.line.lossDeclared
  egress c := (s.circ c).egress
  loss c := (s.circ c).loss
  attrs c := (s.eng c).attr
  roster := s.line.roster.map RosterEntry.unslotted
  absentees := s.absentees

/-- The claim lists of a state, by circuit. -/
def State.claimLists (s : State) (c : Circuit) : List Claim := (s.circ c).claims

/-- Two states agree in all that the laws read when the blocks agree from which it is read. -/
theorem State.lawView_congr {s t : State} (hp : t.part = s.part) (ha : t.claims.egressAsserted = s.claims.egressAsserted)
    (hd : t.line.lossDeclared = s.line.lossDeclared)
    (hc : ∀ c : Circuit, (t.circ c).egress = (s.circ c).egress ∧ (t.circ c).loss = (s.circ c).loss)
    (he : ∀ c : Circuit, (t.eng c).attr = (s.eng c).attr)
    (hr : t.line.roster.map RosterEntry.unslotted = s.line.roster.map RosterEntry.unslotted)
    (ho : t.absentees = s.absentees) : t.lawView = s.lawView := by
  unfold State.lawView
  simp only [hp, ha, hd, fun c => (hc c).1, fun c => (hc c).2, he, hr, ho]

theorem State.absenceWaiting_iff (s : State) (n : Nat) : s.absenceWaiting n = true ↔ n ∈ s.absentees := by
  unfold State.absenceWaiting State.absentees
  simp only [List.contains_iff_mem, List.mem_filterMap]
  constructor
  · intro h
    exact ⟨_, h, rfl⟩
  · rintro ⟨r, hr, hn⟩
    cases r <;> simp_all [Request.absentee]

/-! ### The operations that leave it as it was -/

@[simp] theorem EngineCircuit.published_attr (m : Vector Nat 4) (p : Publication) (e : EngineCircuit) :
    (e.published m p).attr = e.attr := by
  unfold EngineCircuit.published EngineCircuit.recoded EngineCircuit.faded
  split <;> rfl

@[simp] theorem ClaimCircuit.held_claims (p : Option Publication) (t : ClaimCircuit) : (t.held p).claims = t.claims := by
  cases p <;> rfl

@[simp] theorem ClaimCircuit.held_egress (p : Option Publication) (t : ClaimCircuit) : (t.held p).egress = t.egress := by
  cases p <;> rfl

@[simp] theorem ClaimCircuit.held_loss (p : Option Publication) (t : ClaimCircuit) : (t.held p).loss = t.loss := by
  cases p <;> rfl

@[simp] theorem ClaimCircuit.held_entry (p : Option Publication) (t : ClaimCircuit) : (t.held p).entry = t.entry := by
  cases p <;> rfl

@[simp] theorem State.view_withPending (s : State) (l : List Instr) :
    (s.withPending l).lawView = s.lawView ∧ (s.withPending l).claimLists = s.claimLists := ⟨rfl, rfl⟩

@[simp] theorem State.view_withLoop (s : State) (l : LoopBlock) :
    (s.withLoop l).lawView = s.lawView ∧ (s.withLoop l).claimLists = s.claimLists := ⟨rfl, rfl⟩

@[simp] theorem State.view_report (s : State) (f : Flag) :
    (s.report f).lawView = s.lawView ∧ (s.report f).claimLists = s.claimLists := ⟨rfl, rfl⟩

@[simp] theorem State.view_reportIf (s : State) (b : Bool) (f : Flag) :
    (s.reportIf b f).lawView = s.lawView ∧ (s.reportIf b f).claimLists = s.claimLists := by
  cases b <;> exact ⟨rfl, rfl⟩

@[simp] theorem State.view_endRequest (s : State) (n : Nat) :
    (s.endRequest n).lawView = s.lawView ∧ (s.endRequest n).claimLists = s.claimLists := ⟨rfl, rfl⟩

@[simp] theorem State.view_beginRequest (s : State) (n tag : Nat) :
    (s.beginRequest n tag).lawView = s.lawView ∧ (s.beginRequest n tag).claimLists = s.claimLists := ⟨rfl, rfl⟩

@[simp] theorem State.view_setActive (s : State) (n : Option SceneNo) :
    (s.setActive n).lawView = s.lawView ∧ (s.setActive n).claimLists = s.claimLists := ⟨rfl, rfl⟩

@[simp] theorem State.view_setScene (s : State) (n : SceneNo) (r : SceneRecord) :
    (s.setScene n r).lawView = s.lawView ∧ (s.setScene n r).claimLists = s.claimLists := ⟨rfl, rfl⟩

@[simp] theorem State.view_setPendings (s : State) (l : List Pending) :
    (s.setPendings l).lawView = s.lawView ∧ (s.setPendings l).claimLists = s.claimLists := ⟨rfl, rfl⟩

@[simp] theorem State.view_dropShots (s : State) (n k : Nat) :
    (s.dropShots n k).lawView = s.lawView ∧ (s.dropShots n k).claimLists = s.claimLists := ⟨rfl, rfl⟩

@[simp] theorem State.view_dropFeedback (s : State) (n : Nat) :
    (s.dropFeedback n).lawView = s.lawView ∧ (s.dropFeedback n).claimLists = s.claimLists := ⟨rfl, rfl⟩

@[simp] theorem State.view_takeShots (s : State) (n k : Nat) :
    (s.takeShots n k).lawView = s.lawView ∧ (s.takeShots n k).claimLists = s.claimLists := ⟨rfl, rfl⟩

@[simp] theorem State.view_setWindow (s : State) (i : WindowIndex) (w : Window) :
    (s.setWindow i w).lawView = s.lawView ∧ (s.setWindow i w).claimLists = s.claimLists := ⟨rfl, rfl⟩

@[simp] theorem State.view_setGroup (s : State) (g : GroupNo) (l : List Circuit) :
    (s.setGroup g l).lawView = s.lawView ∧ (s.setGroup g l).claimLists = s.claimLists := ⟨rfl, rfl⟩

@[simp] theorem State.view_setSettings (s : State) (t : Settings) :
    (s.setSettings t).lawView = s.lawView ∧ (s.setSettings t).claimLists = s.claimLists := ⟨rfl, rfl⟩

@[simp] theorem State.view_setCueContact (s : State) (x : Cue) (b : Bool) :
    (s.setCueContact x b).lawView = s.lawView ∧ (s.setCueContact x b).claimLists = s.claimLists := by
  cases x <;> exact ⟨rfl, rfl⟩

@[simp] theorem State.view_offerUnrouted (s : State) (u : Unrouted) :
    (s.offerUnrouted u).lawView = s.lawView ∧ (s.offerUnrouted u).claimLists = s.claimLists := by
  unfold State.offerUnrouted
  split
  · exact ⟨rfl, rfl⟩
  · split <;> exact ⟨rfl, rfl⟩

/-- A request other than an absence request leaves the absence requests as they were. -/
theorem State.view_request (s : State) {r : Request} (h : r.absentee = none) :
    (s.request r).lawView = s.lawView ∧ (s.request r).claimLists = s.claimLists :=
  ⟨State.lawView_congr rfl rfl rfl (fun _ => ⟨rfl, rfl⟩) (fun _ => rfl) rfl (by simp [State.absentees, h]), rfl⟩

/-- The waiting order rewritten without a change to the absence requests. -/
theorem State.view_order (s : State) {l : List Request}
    (h : l.filterMap Request.absentee = s.claims.order.filterMap Request.absentee) :
    State.lawView { s with claims := { s.claims with order := l } } = s.lawView ∧
      State.claimLists { s with claims := { s.claims with order := l } } = s.claimLists :=
  ⟨State.lawView_congr rfl rfl rfl (fun _ => ⟨rfl, rfl⟩) (fun _ => rfl) rfl h, rfl⟩

/-- The head of the waiting order leaves it. -/
theorem State.view_takeHead {s : State} {r : Request} (hg : s.grantable = some r) (h : r.absentee = none) :
    s.takeHead.lawView = s.lawView ∧ s.takeHead.claimLists = s.claimLists := by
  refine State.view_order s ?_
  unfold State.grantable at hg
  split at hg
  · cases ho : s.claims.order with
    | nil => rfl
    | cons x rest =>
      rw [ho] at hg
      obtain rfl : x = r := by simpa using hg
      simp [h]
  · cases hg

@[simp] theorem State.view_deliver (s : State) (pub : Circuit → Option Publication) :
    (s.deliver pub).lawView = s.lawView ∧ (s.deliver pub).claimLists = s.claimLists := by
  refine ⟨State.lawView_congr rfl rfl rfl (fun c => ?_) (fun c => ?_) rfl rfl, funext fun c => ?_⟩
  · simp [State.circ_deliver]
  · rw [State.eng_deliver]
    cases pub c <;> simp
  · simp [State.claimLists, State.circ_deliver]

@[simp] theorem State.view_enter (s : State) (which : Circuit → Bool) (fade : Nat) :
    (s.enter which fade).lawView = s.lawView ∧ (s.enter which fade).claimLists = s.claimLists := by
  refine ⟨State.lawView_congr rfl rfl rfl (fun c => ?_) (fun _ => rfl) rfl rfl, funext fun c => ?_⟩
  · rw [State.circ_enter]
    split <;> exact ⟨rfl, rfl⟩
  · unfold State.claimLists
    rw [State.circ_enter]
    split <;> rfl

@[simp] theorem State.view_closeSet (s : State) :
    s.closeSet.lawView = s.lawView ∧ s.closeSet.claimLists = s.claimLists := by
  refine ⟨State.lawView_congr rfl rfl rfl (fun c => ?_) (fun c => ?_) rfl rfl, funext fun c => ?_⟩
  · simp [State.circ_closeSet]
  · rw [State.eng_closeSet]
    cases s.closing c <;> simp
  · simp [State.claimLists, State.circ_closeSet]

@[simp] theorem State.view_writeMaster (s : State) (m : Master) (v : Nat) :
    (s.writeMaster m v).lawView = s.lawView ∧ (s.writeMaster m v).claimLists = s.claimLists := by
  refine ⟨State.lawView_congr rfl rfl rfl (fun _ => ⟨rfl, rfl⟩) (fun c => ?_) rfl rfl, rfl⟩
  unfold State.writeMaster State.eng
  refine (congrArg EngineCircuit.attr (getElem_mapTable _ _ c)).trans ?_
  split <;> rfl

/-- A change to the feedback alone. -/
theorem State.view_of_feedback {s t : State} {f : FeedbackBlock} (h : t = { s with feedback := f }) :
    t.lawView = s.lawView ∧ t.claimLists = s.claimLists := by
  subst h; exact ⟨rfl, rfl⟩

@[simp] theorem State.view_outcome (s : State) (st k : Nat) (ack : Bool) :
    (s.outcome st k ack).lawView = s.lawView ∧ (s.outcome st k ack).claimLists = s.claimLists :=
  State.view_of_feedback (s.outcome_feedback_only st k ack)

@[simp] theorem State.view_settle (s : State) (st k : Nat) (f : FeedbackKind) (refused : Bool) (l : List Circuit) :
    (s.settle st k f refused l).lawView = s.lawView ∧ (s.settle st k f refused l).claimLists = s.claimLists :=
  State.view_of_feedback (s.settle_feedback_only st k f refused l)

@[simp] theorem State.view_accept (s : State) (st k : Nat) (f : FeedbackKind) (l : List Circuit) :
    (s.accept st k f l).lawView = s.lawView ∧ (s.accept st k f l).claimLists = s.claimLists :=
  s.view_settle st k f false l

@[simp] theorem State.view_nackEach (l : List Pending) (s : State) :
    (State.nackEach l s).lawView = s.lawView ∧ (State.nackEach l s).claimLists = s.claimLists :=
  State.view_of_feedback (State.nackEach_feedback_only l s)

@[simp] theorem State.view_settleRecords (pub : List Circuit) (l : List Applied) (s : State) :
    (State.settleRecords pub l s).lawView = s.lawView ∧ (State.settleRecords pub l s).claimLists = s.claimLists :=
  State.view_of_feedback (State.settleRecords_feedback_only pub l s)

@[simp] theorem State.view_levelReport (s : State) (g : Segment) (intact : Bool) :
    (s.levelReport g intact).lawView = s.lawView ∧ (s.levelReport g intact).claimLists = s.claimLists :=
  State.view_of_feedback (s.levelReport_feedback_only g intact)

/-- A change of reply slots alone. -/
theorem State.view_modifyEntry_slot (s : State) (n : Nat) {f : RosterEntry → RosterEntry}
    (hf : ∀ e, (f e).unslotted = e.unslotted) :
    (s.modifyEntry n f).lawView = s.lawView ∧ (s.modifyEntry n f).claimLists = s.claimLists := by
  refine ⟨State.lawView_congr rfl rfl rfl (fun _ => ⟨rfl, rfl⟩) (fun _ => rfl) ?_ rfl, rfl⟩
  simp only [State.modifyEntry_line, List.map_map]
  refine List.map_congr_left fun e _ => ?_
  show (if e.station = n then f e else e).unslotted = e.unslotted
  split
  · exact hf e
  · rfl

@[simp] theorem State.view_complete (s : State) (n : Nat) (r : Result) (p : List Byte) :
    (s.complete n r p).lawView = s.lawView ∧ (s.complete n r p).claimLists = s.claimLists := by
  unfold State.complete State.putReply
  split
  · split
    · exact s.view_modifyEntry_slot n fun _ => rfl
    · split <;> exact ⟨rfl, rfl⟩
  · exact ⟨rfl, rfl⟩

@[simp] theorem State.view_replyFires (l : List Fire) (s : State) :
    (State.replyFires l s).lawView = s.lawView ∧ (State.replyFires l s).claimLists = s.claimLists := by
  induction l generalizing s with
  | nil => exact ⟨rfl, rfl⟩
  | cons f rest ih =>
    unfold State.replyFires
    simp [ih]

@[simp] theorem State.view_visitEntry (s : State) (e : RosterEntry) :
    (s.visitEntry e).lawView = s.lawView ∧ (s.visitEntry e).claimLists = s.claimLists :=
  (s.takeShots e.station e.controls).view_modifyEntry_slot e.station (f := fun x => { x with slot := none }) fun _ => rfl

@[simp] theorem State.view_visitService (s : State) :
    s.visitService.lawView = s.lawView ∧ s.visitService.claimLists = s.claimLists := ⟨rfl, rfl⟩

@[simp] theorem State.view_visitFrom (s : State) (n : Nat) :
    (s.visitFrom n).lawView = s.lawView ∧ (s.visitFrom n).claimLists = s.claimLists := by
  unfold State.visitFrom
  split <;> simp

@[simp] theorem State.view_nextVisit (s : State) :
    s.nextVisit.lawView = s.lawView ∧ s.nextVisit.claimLists = s.claimLists := by
  have cycle : s.endCycle.lawView = s.lawView ∧ s.endCycle.claimLists = s.claimLists := State.view_visitFrom _ 0
  unfold State.nextVisit
  split
  · simp
  · split
    · exact ⟨rfl, rfl⟩
    · exact cycle
  · exact cycle

end Sys2Proof.Machine
end

section
/-! SUPPORT. Steps that keep the slot laws, the roster law and the law of absence, and the work on claims, which is such a step. -/

namespace Sys2Proof.Machine

/-! ### Steps that keep the laws -/

/-- A step that keeps the part state, the slot laws, the roster law and the law of absence. -/
structure KeepsLaws (s t : State) : Prop where
  part : t.part = s.part
  egress : s.EgressLaw → t.EgressLaw
  loss : s.LossLaw → t.LossLaw
  roster : s.RosterLaw → t.RosterLaw
  absence : s.AbsenceLaw → t.AbsenceLaw

theorem KeepsLaws.refl (s : State) : KeepsLaws s s := ⟨rfl, id, id, id, id⟩

theorem KeepsLaws.trans {s t u : State} (h : KeepsLaws s t) (k : KeepsLaws t u) : KeepsLaws s u :=
  ⟨k.part.trans h.part, k.egress ∘ h.egress, k.loss ∘ h.loss, k.roster ∘ h.roster, k.absence ∘ h.absence⟩

/-- A step that leaves what the laws read as it was, and gives no MOMENTARY claim to an ABSENT station. -/
def Steady (s t : State) : Prop :=
  t.lawView = s.lawView ∧
  ∀ c : Circuit, ∀ cl ∈ t.claimLists c, cl.kind = .momentary →
    cl ∈ s.claimLists c ∨ ∀ n, cl.ofStation n = true → s.absent n = false

theorem Steady.of_view {s t : State} (h : t.lawView = s.lawView ∧ t.claimLists = s.claimLists) : Steady s t :=
  ⟨h.1, fun _ _ hc _ => .inl (h.2 ▸ hc)⟩

theorem Steady.refl (s : State) : Steady s s := .of_view ⟨rfl, rfl⟩

/-- Whether a station is ABSENT is read from the roster without its reply slots. -/
theorem State.absent_eq (s : State) (n : Nat) :
    s.absent n = match s.lawView.roster.find? (·.station == n) with
      | some e => e.live == .absent
      | none => false := by
  have h : s.lawView.roster.find? (·.station == n) = (s.entryOf n).map RosterEntry.unslotted := by
    unfold State.entryOf State.lawView
    rw [List.find?_map]; rfl
  rw [h]
  unfold State.absent
  cases s.entryOf n <;> rfl

theorem State.absent_congr {s t : State} (h : t.lawView = s.lawView) (n : Nat) : t.absent n = s.absent n := by
  rw [State.absent_eq, State.absent_eq, h]

theorem Steady.trans {s t u : State} (h : Steady s t) (k : Steady t u) : Steady s u := by
  refine ⟨k.1.trans h.1, fun c cl hc hm => ?_⟩
  rcases k.2 c cl hc hm with ht | hn
  · exact h.2 c cl ht hm
  · exact .inr fun n hs => (State.absent_congr h.1 n).symm.trans (hn n hs)

/-- The roster law, read from the roster without its reply slots. -/
theorem State.rosterLaw_iff (s : State) :
    s.RosterLaw ↔
      s.lawView.roster.Pairwise (fun a b => a.station < b.station) ∧ s.lawView.roster.length ≤ Config.rosterMax ∧
      ∀ e ∈ s.lawView.roster, 1 ≤ e.station ∧ e.station ≤ Config.stationMax ∧ 1 ≤ e.controls ∧ e.controls ≤ 32 ∧
        e.missed ≤ Config.missLimit ∧ (e.missed = Config.missLimit → e.live = .absent ∨ e.station ∈ s.lawView.absentees) := by
  have hw : ∀ n, s.absenceWaiting n = true ↔ n ∈ s.lawView.absentees := s.absenceWaiting_iff
  unfold State.RosterLaw
  simp only [hw]
  simp only [State.lawView, List.pairwise_map, List.length_map, List.forall_mem_map, RosterEntry.unslotted]

theorem KeepsLaws.of_steady {s t : State} (h : Steady s t) : KeepsLaws s t where
  part := congrArg LawView.part h.1
  egress hs c := by
    have he := hs c
    show t.lawView.egress c = if t.lawView.asserted ∧ (t.lawView.attrs c).egress then some (t.lawView.attrs c).egressLevel else none
    rw [h.1]; exact he
  loss hs := by
    show t.lawView.declared = false → ∀ c, t.lawView.loss c = none
    rw [h.1]; exact hs
  roster hs := by rw [State.rosterLaw_iff] at hs ⊢; rw [h.1]; exact hs
  absence hs n hn c cl hc ho hm := by
    rw [State.absent_congr h.1] at hn
    rcases h.2 c cl hc hm with hcl | ha
    · exact hs n hn c cl hcl ho hm
    · rw [ha n ho] at hn; cases hn

theorem KeepsLaws.of_view {s t : State} (h : t.lawView = s.lawView ∧ t.claimLists = s.claimLists) : KeepsLaws s t :=
  .of_steady (.of_view h)

/-! ### Work on claims -/

theorem ClaimCircuit.mem_placed {p : Placement} {cl x : Claim} {t : ClaimCircuit} (h : x ∈ (t.placed p cl).claims) :
    x ∈ t.claims ∨ x = cl := by
  cases p with
  | replaced | evicted =>
    rcases List.mem_append.mp h with h | h
    · exact .inl (List.mem_of_mem_eraseP h)
    · exact .inr (List.mem_singleton.mp h)
  | added => simpa [ClaimCircuit.placed] using h
  | refusedList | refusedPool => exact .inl h

theorem ClaimCircuit.placed_slots (p : Placement) (cl : Claim) (t : ClaimCircuit) :
    (t.placed p cl).egress = t.egress ∧ (t.placed p cl).loss = t.loss := by
  cases p <;> exact ⟨rfl, rfl⟩

theorem ClaimCircuit.without_slots (gone : Claim → Bool) (t : ClaimCircuit) :
    (t.without gone).egress = t.egress ∧ (t.without gone).loss = t.loss := by
  unfold ClaimCircuit.without
  split <;> exact ⟨rfl, rfl⟩

theorem ClaimCircuit.claims_without (gone : Claim → Bool) (t : ClaimCircuit) :
    (t.without gone).claims = t.claims.filter fun cl => !gone cl := by
  unfold ClaimCircuit.without
  split
  · rfl
  · next h =>
    rw [List.getLast?_eq_none_iff, List.filter_eq_nil_iff] at h
    exact (List.filter_eq_self.mpr fun x hx => by simpa using h x hx).symm

/-- A claim that may be placed: it is not a MOMENTARY claim of an ABSENT station. -/
def State.Placeable (s : State) (cl : Claim) : Prop :=
  cl.kind = .momentary → ∀ n, cl.ofStation n = true → s.absent n = false

theorem State.Placeable.of_kind {s : State} {cl : Claim} (h : cl.kind ≠ .momentary) : s.Placeable cl := fun hm => absurd hm h

theorem Steady.placeOne {s : State} {cl : Claim} (c : Circuit) (h : s.Placeable cl) : Steady s (s.placeOne c cl) := by
  have hc : ∀ k : Circuit, (s.placeOne c cl).circ k = s.circ k ∨
      (s.placeOne c cl).circ k = (s.circ k).placed (s.placementOn c cl) cl := fun k => by
    by_cases hk : k = c
    · exact .inr (hk ▸ State.circ_placeOne_self s c cl)
    · exact .inl (State.circ_placeOne_other s cl hk)
  obtain ⟨heq, horder, -, hasserted⟩ := State.placeOne_same s c cl
  have hline : (s.placeOne c cl).line = s.line := by rw [heq]
  have hengine : (s.placeOne c cl).engine = s.engine := by rw [heq]
  refine ⟨State.lawView_congr (by rw [heq]) hasserted (by rw [hline]) (fun k => ?_) (fun k => ?_) (by rw [hline])
    (by unfold State.absentees; rw [horder]), fun k x hx hm => ?_⟩
  · rcases hc k with e | e <;> rw [e]
    · exact ⟨rfl, rfl⟩
    · exact ClaimCircuit.placed_slots _ _ _
  · unfold State.eng; rw [hengine]
  · unfold State.claimLists at hx
    rcases hc k with e | e <;> rw [e] at hx
    · exact .inl hx
    · rcases ClaimCircuit.mem_placed hx with hx | rfl
      · exact .inl hx
      · exact .inr (h hm)

theorem State.Placeable.congr {s t : State} {cl : Claim} (h : Steady s t) (hp : s.Placeable cl) : t.Placeable cl :=
  fun hm n hn => (State.absent_congr h.1 n).trans (hp hm n hn)

theorem Steady.placeEach (l : List (Circuit × Claim)) {s : State} (h : ∀ x ∈ l, s.Placeable x.2) :
    Steady s (State.placeEach l s).2 := by
  induction l generalizing s with
  | nil => exact .refl s
  | cons x rest ih =>
    obtain ⟨c, cl⟩ := x
    have one : Steady s (s.placeOne c cl) := .placeOne c (h (c, cl) List.mem_cons_self)
    exact one.trans (ih fun y hy => (h y (List.mem_cons_of_mem _ hy)).congr one)

theorem Steady.removeWhere (s : State) (gone : Circuit → Claim → Bool) : Steady s (s.removeWhere gone) := by
  refine ⟨State.lawView_congr rfl rfl rfl (fun c => ?_) (fun _ => rfl) rfl rfl, fun c cl hc _ => .inl ?_⟩
  · rw [State.circ_removeWhere]; exact ClaimCircuit.without_slots _ _
  · unfold State.claimLists at hc ⊢
    rw [State.circ_removeWhere, ClaimCircuit.claims_without] at hc
    exact (List.mem_filter.mp hc).1

theorem Steady.placeOnAll (st k : Nat) (i : WindowIndex) (layer : Layer) {kind : ClaimKind} (fade : Nat) (level : Circuit → Nat)
    (l : List Circuit) {s : State} (h : kind = .momentary → s.absent st = false) :
    Steady s (s.placeOnAll st k i layer kind fade level l).2 := by
  refine .placeEach _ fun x hx => ?_
  obtain ⟨c, -, rfl⟩ := List.mem_map.mp hx
  intro hm n hn
  obtain rfl : st = n := by simpa [windowClaim, Claim.ofStation] using hn
  exact h hm

/-- R39: the work of a claim action places a MOMENTARY claim for a PRESS alone, and a PRESS of an ABSENT station is refused. -/
theorem Steady.applyWork (st k : Nat) (i : WindowIndex) (layer : Layer) (w : ClaimWork) (l : List Circuit) (s : State) :
    Steady s (s.applyWork st k i layer w l).2 := by
  cases w with
  | setLevel | timed | raise | lower => exact .placeOnAll _ _ _ _ _ _ _ (by simp)
  | clear | release => exact .removeWhere _ _
  | press level fade =>
    unfold State.applyWork
    dsimp only
    split
    · exact .refl s
    · next h => exact .placeOnAll _ _ _ _ _ _ _ fun _ => by simpa using h
  | toggle | fader =>
    unfold State.applyWork
    dsimp only
    split
    · exact .removeWhere _ _
    · exact .placeOnAll _ _ _ _ _ _ _ (by simp)

theorem Steady.placementPass (fade : Nat) (l : List SceneEntry) (s : State) : Steady s (State.placementPass fade l s).2 := by
  have one : ∀ (e : SceneEntry) (s : State), Steady s (s.placeOne e.circuit (sceneClaim e.level fade)) := fun e s =>
    .placeOne _ (.of_kind (by simp [sceneClaim]))
  induction l generalizing s with
  | nil => exact .refl s
  | cons e rest ih =>
    unfold State.placementPass
    split
    · exact one e s
    · exact (one e s).trans (ih _)

theorem Steady.recallPasses (r : SceneRecord) (s : State) : Steady s (s.recallPasses r).2 :=
  (Steady.removeWhere s (outsideScene r)).trans (.placementPass _ _ _)

theorem Steady.releaseScenes (s : State) : Steady s s.releaseScenes :=
  (Steady.removeWhere s inSceneLayer).trans (.of_view (by simp [State.releaseScenes]))

theorem Steady.applyRecord (p : Pending) (s : State) : Steady s (s.applyRecord p).2 := by
  unfold State.applyRecord
  split
  · cases p.work with
    | claim => exact .applyWork _ _ _ _ _ _ s
    | scene n => exact (Steady.recallPasses s.player.scenes[n] s).trans (.of_view (State.view_setActive _ _))
    | sceneOff => exact .releaseScenes s
  · exact .refl s

theorem Steady.applyRecords (l : List Pending) (s : State) : Steady s (State.applyRecords l s).2 := by
  induction l generalizing s with
  | nil => exact .refl s
  | cons p rest ih => exact (Steady.applyRecord p s).trans (ih _)

theorem Steady.countTimers (s : State) : Steady s s.countTimers := by
  refine ⟨State.lawView_congr rfl rfl rfl (fun c => ?_) (fun _ => rfl) rfl rfl, fun c cl hc hm => .inl ?_⟩
  · rw [State.circ_countTimers]; exact ⟨rfl, rfl⟩
  · unfold State.claimLists at hc ⊢
    rw [State.circ_countTimers] at hc
    obtain ⟨x, hx, rfl⟩ := List.mem_map.mp hc
    have hxm : x.counted = x := by
      cases hk : x.kind <;> simp_all [Claim.counted]
    rwa [hxm]

end Sys2Proof.Machine
end

section
/-! SUPPORT. The commands that leave what the slot laws, the roster law and the law of absence read as it was, apart from claims that they
place or remove. -/

namespace Sys2Proof.Machine

/-! ### Grants and completions -/

/-- A granted request that is no absence request leaves the waiting order, and then steady work is done. -/
theorem Steady.of_grant {s t : State} {r : Request} (hg : s.grantable = some r) (hr : r.absentee = none)
    (h : Steady s.takeHead t) : Steady s t :=
  (Steady.of_view (State.view_takeHead hg hr)).trans h

theorem Steady.closeSet {s t : State} (h : Steady s t) : Steady s t.closeSet := h.trans (.of_view t.view_closeSet)

theorem Steady.claimActionGrant (s : State) : Steady s s.claimActionGrant := by
  unfold State.claimActionGrant
  split
  · next a hg =>
    refine .of_grant hg rfl ?_
    unfold State.grantClaimAction
    split
    · have work := Steady.applyWork a.station a.control a.window a.layer a.work (s.takeHead.targets a.target) s.takeHead
      exact work.trans (.of_view (by simp))
    · exact .of_view (by simp)
  · exact .refl s

theorem Steady.stationRemovalGrant (s : State) : Steady s s.stationRemovalGrant := by
  unfold State.stationRemovalGrant
  split
  · next hg => exact .of_grant hg rfl (Steady.removeWhere _ _).closeSet
  · exact .refl s

theorem Steady.claimTimerExpiry (s : State) : Steady s s.claimTimerExpiry := by
  unfold State.claimTimerExpiry
  split
  · split
    · exact (Steady.countTimers s).trans (.of_view (State.view_request _ rfl))
    · exact .countTimers s
  · exact .refl s

theorem Steady.expiryGrant (s : State) : Steady s s.expiryGrant := by
  unfold State.expiryGrant
  split
  · next hg => exact .of_grant hg rfl (Steady.removeWhere _ _).closeSet
  · exact .refl s

theorem Steady.setLevelGrant (s : State) : Steady s s.setLevelGrant := by
  unfold State.setLevelGrant
  split
  · next c layer level fade _ hg =>
    refine .of_grant hg rfl ?_
    unfold State.grantSetLevel
    split
    · exact .of_view (by simp)
    · have placed : Steady s.takeHead (s.takeHead.placeOne c (managementClaim layer level fade)) :=
        .placeOne c (.of_kind (by simp [managementClaim]))
      exact placed.trans (.of_view (by simp))
  · exact .refl s

theorem Steady.releaseLayerGrant (s : State) : Steady s s.releaseLayerGrant := by
  unfold State.releaseLayerGrant
  split
  · next hg => exact .of_grant hg rfl ((Steady.removeWhere _ _).closeSet.trans (.of_view (State.view_complete _ _ _ _)))
  · exact .refl s

theorem Steady.mergeRuleGrant (s : State) : Steady s s.mergeRuleGrant := by
  unfold State.mergeRuleGrant
  split
  · next hg => exact .of_grant hg rfl (.of_view (by simp [State.grantMergeRule]))
  · exact .refl s

theorem Steady.recallGrant (s : State) : Steady s s.recallGrant := by
  unfold State.recallGrant
  split
  · next n asker hg =>
    exact .of_grant hg rfl ((Steady.recallPasses s.takeHead.player.scenes[n] _).trans (.of_view ⟨rfl, rfl⟩))
  · exact .refl s

theorem Steady.recallCompletion (s : State) : Steady s s.recallCompletion := by
  unfold State.recallCompletion
  split
  · unfold State.completeRecall
    dsimp only
    split <;> exact .of_view (by simp)
  · exact .refl s

theorem Steady.releaseGrant (s : State) : Steady s s.releaseGrant := by
  unfold State.releaseGrant
  split
  · next hg => exact .of_grant hg rfl ((Steady.releaseScenes _).closeSet.trans (.of_view (State.view_accept _ _ _ _ _)))
  · exact .refl s

theorem Steady.captureGrant (s : State) : Steady s s.captureGrant := by
  unfold State.captureGrant
  split
  · next hg =>
    refine .of_grant hg rfl (.of_view ?_)
    unfold State.grantCapture
    repeat' split
    all_goals simp
  · exact .refl s

theorem Steady.cueGrant (s : State) : Steady s s.cueGrant := by
  unfold State.cueGrant
  split
  · next x records fires hg =>
    exact .of_grant hg rfl ((Steady.applyRecords records _).trans (.of_view ⟨rfl, rfl⟩))
  · exact .refl s

theorem Steady.cueCompletion (s : State) : Steady s s.cueCompletion := by
  unfold State.cueCompletion
  split
  · exact .of_view (by simp [State.completeCue])
  · exact .refl s

@[simp] theorem State.view_changeMode (m : Mode) (s : State) :
    (s.changeMode m).lawView = s.lawView ∧ (s.changeMode m).claimLists = s.claimLists := by
  unfold State.changeMode
  split
  · exact ⟨rfl, rfl⟩
  · exact State.view_enter _ _ _

theorem Steady.modeChangeGrant (s : State) : Steady s s.modeChangeGrant := by
  unfold State.modeChangeGrant
  split
  · next hg =>
    refine .of_grant hg rfl (.of_view ?_)
    unfold State.grantModeAction
    split <;> simp
  · next hg => exact .of_grant hg rfl (.of_view (by simp [State.grantModeSet]))
  · exact .refl s

/-! ### Cues, windows and event records -/

theorem Request.joined_absentee (x : Cue) (records : List Pending) (fires : List Fire) (r : Request) :
    (r.joined x records fires).absentee = r.absentee := by
  cases r with
  | cue =>
    unfold Request.joined
    dsimp only
    split <;> rfl
  | _ => rfl

@[simp] theorem State.view_cueEvent (x : Cue) (fire : Option Nat) (s : State) :
    (s.cueEvent x fire).lawView = s.lawView ∧ (s.cueEvent x fire).claimLists = s.claimLists := by
  unfold State.cueEvent
  dsimp only
  split
  · split <;> simp
  · split
    · refine State.view_order (s.setPendings (s.cues.pendings.filter (·.cue != x))) ?_
      simp [List.filterMap_map, Request.joined_absentee]
    · exact State.view_request (s.setPendings (s.cues.pendings.filter (·.cue != x))) rfl

theorem State.view_cueInput (x : Cue) (asserted : Bool) (s : State) :
    (s.cueInput x asserted).lawView = s.lawView ∧ (s.cueInput x asserted).claimLists = s.claimLists := by
  unfold State.cueInput
  repeat' split
  all_goals simp

@[simp] theorem State.view_dropPendings (gone : Pending → Bool) (s : State) :
    (s.dropPendings gone).lawView = s.lawView ∧ (s.dropPendings gone).claimLists = s.claimLists := by
  simp [State.dropPendings]

@[simp] theorem State.view_enterPending (p : Pending) (s : State) :
    (s.enterPending p).lawView = s.lawView ∧ (s.enterPending p).claimLists = s.claimLists := by
  unfold State.enterPending
  repeat' split
  all_goals simp

theorem Request.absentee_of_windowAsker {r : Request} (h : r.windowAsker.isSome = true) : r.absentee = none := by
  cases r <;> simp_all [Request.windowAsker, Request.absentee]

theorem State.view_handScene {r : Request} (h : r.absentee = none) (s : State) :
    (s.handScene r).lawView = s.lawView ∧ (s.handScene r).claimLists = s.claimLists := by
  unfold State.handScene
  split
  · rw [(State.view_outcome _ _ _ _).1, (State.view_outcome _ _ _ _).2]
    refine State.view_order s ?_
    rw [List.filterMap_map]
    refine congrArg (fun f => s.claims.order.filterMap f) (funext fun q => ?_)
    show (if q.windowAsker.isSome then r else q).absentee = q.absentee
    split
    · next hq => rw [h, Request.absentee_of_windowAsker hq]
    · rfl
  · exact State.view_request s h

theorem State.view_handClaim (i : WindowIndex) (w : Window) (r : EventRecord) (work : ClaimWork) (target : TargetRef) (s : State) :
    (s.handClaim i w r work target).lawView = s.lawView ∧ (s.handClaim i w r work target).claimLists = s.claimLists := by
  unfold State.handClaim
  split
  · exact State.view_request s rfl
  · simp

theorem State.view_handSceneAction (i : WindowIndex) (w : Window) (r : EventRecord) (work : PendingWork) {now : Request}
    (h : now.absentee = none) (s : State) :
    (s.handSceneAction i w r work now).lawView = s.lawView ∧ (s.handSceneAction i w r work now).claimLists = s.claimLists := by
  unfold State.handSceneAction
  split
  · exact State.view_handScene h s
  · simp

/-- R26: no action of a window changes a claim, a slot, the roster or an absence request when its record is taken. -/
theorem State.view_act (i : WindowIndex) (w : Window) (r : EventRecord) (s : State) :
    (s.act i w r).lawView = s.lawView ∧ (s.act i w r).claimLists = s.claimLists := by
  unfold State.act
  dsimp only
  split
  · split
    · exact State.view_handClaim _ _ _ _ _ s
    · simp
  · simp
  · exact State.view_handSceneAction _ _ _ _ rfl s
  · exact State.view_handSceneAction _ _ _ _ rfl s
  · split
    · simp
    · exact State.view_request s rfl
  · simp
  · exact ⟨rfl, rfl⟩

theorem State.view_unrouted (r : EventRecord) (s : State) :
    (s.unrouted r).lawView = s.lawView ∧ (s.unrouted r).claimLists = s.claimLists := by
  unfold State.unrouted
  dsimp only
  repeat' split
  all_goals simp

theorem State.view_resolve (r : EventRecord) (s : State) :
    (s.resolve r).lawView = s.lawView ∧ (s.resolve r).claimLists = s.claimLists := by
  unfold State.resolve
  split
  · exact ⟨rfl, rfl⟩
  · split
    · exact State.view_unrouted r s
    · split
      · simp
      · exact State.view_act _ _ r s

theorem State.view_takeEventRecord (s : State) :
    s.takeEventRecord.lawView = s.lawView ∧ s.takeEventRecord.claimLists = s.claimLists := by
  unfold State.takeEventRecord
  split
  · exact ⟨rfl, rfl⟩
  · split
    · exact State.view_resolve _ _
    · exact ⟨rfl, rfl⟩

theorem State.view_offerEvent (r : EventRecord) (s : State) :
    (s.offerEvent r).lawView = s.lawView ∧ (s.offerEvent r).claimLists = s.claimLists := by
  unfold State.offerEvent
  repeat' split
  · exact ⟨rfl, rfl⟩
  · simp
  · simp

/-! ### The loop, the store and the fades -/

theorem State.view_countVerdict (g : Segment) (v : LoopVerdict) (s : State) :
    (s.countVerdict g v).lawView = s.lawView ∧ (s.countVerdict g v).claimLists = s.claimLists := by
  cases v <;> simp [State.countVerdict]

theorem State.view_frameOutcome (o : Outstanding) (v : LoopVerdict) (s : State) :
    (s.frameOutcome o v).lawView = s.lawView ∧ (s.frameOutcome o v).claimLists = s.claimLists := by
  have h := s.view_countVerdict o.segment v
  unfold State.frameOutcome
  cases o.kind
  · simp [h]
  · exact h

theorem State.view_writeStatus (g : Segment) (values : List Word) (s : State) :
    (s.writeStatus g values).lawView = s.lawView ∧ (s.writeStatus g values).claimLists = s.claimLists := by
  simp [State.writeStatus]

theorem State.view_takeReturn (o : Outstanding) (rest : List Outstanding) (bits : List Bool) (s : State) :
    (s.takeReturn o rest bits).lawView = s.lawView ∧ (s.takeReturn o rest bits).claimLists = s.claimLists := by
  unfold State.takeReturn
  dsimp only
  split <;> simp [State.view_frameOutcome, State.view_writeStatus]

theorem State.view_loopFrameReceived (bits : List Bool) (s : State) :
    (s.loopFrameReceived bits).lawView = s.lawView ∧ (s.loopFrameReceived bits).claimLists = s.claimLists := by
  unfold State.loopFrameReceived
  split
  · exact ⟨rfl, rfl⟩
  · split
    · exact State.view_takeReturn _ _ bits s
    · exact ⟨rfl, rfl⟩

theorem State.view_returnTimeout (s : State) :
    s.returnTimeout.lawView = s.lawView ∧ s.returnTimeout.claimLists = s.claimLists := by
  unfold State.returnTimeout
  split
  · exact ⟨rfl, rfl⟩
  · split <;> simp [State.view_frameOutcome]

theorem State.view_transmitStart (s : State) :
    s.transmitStart.lawView = s.lawView ∧ s.transmitStart.claimLists = s.claimLists := by
  unfold State.transmitStart
  repeat' split
  all_goals exact ⟨rfl, rfl⟩

theorem State.view_transmitEnd (s : State) :
    s.transmitEnd.lawView = s.lawView ∧ s.transmitEnd.claimLists = s.claimLists := by
  unfold State.transmitEnd
  split <;> exact ⟨rfl, rfl⟩

theorem State.view_levelSchedule (s : State) :
    s.levelSchedule.lawView = s.lawView ∧ s.levelSchedule.claimLists = s.claimLists := by
  unfold State.levelSchedule
  split <;> exact ⟨rfl, rfl⟩

theorem State.view_statusSchedule (s : State) :
    s.statusSchedule.lawView = s.lawView ∧ s.statusSchedule.claimLists = s.claimLists := by
  unfold State.statusSchedule
  split <;> exact ⟨rfl, rfl⟩

@[simp] theorem EngineCircuit.stepped_attr (m : Vector Nat 4) (e : EngineCircuit) : (e.stepped m).attr = e.attr := by
  unfold EngineCircuit.stepped EngineCircuit.faderStep EngineCircuit.recoded
  dsimp only
  repeat' split
  all_goals rfl

theorem State.view_fadeStep (s : State) : s.fadeStep.lawView = s.lawView ∧ s.fadeStep.claimLists = s.claimLists := by
  unfold State.fadeStep
  split
  · refine ⟨State.lawView_congr rfl rfl rfl (fun _ => ⟨rfl, rfl⟩) (fun c => ?_) rfl rfl, rfl⟩
    exact (congrArg EngineCircuit.attr (getElem_mapTable _ _ c)).trans (EngineCircuit.stepped_attr _ _)
  · exact ⟨rfl, rfl⟩

theorem State.view_saveCompletion (readBack : List (List Byte)) (s : State) :
    (s.saveCompletion readBack).lawView = s.lawView ∧ (s.saveCompletion readBack).claimLists = s.claimLists := by
  unfold State.saveCompletion
  split
  · exact State.view_reportIf _ _ _
  · exact ⟨rfl, rfl⟩
  · exact ⟨rfl, rfl⟩

theorem State.view_verifyCompletion (s : State) :
    s.verifyCompletion.lawView = s.lawView ∧ s.verifyCompletion.claimLists = s.claimLists := by
  unfold State.verifyCompletion
  split
  · exact State.view_complete _ _ _ _
  · exact ⟨rfl, rfl⟩
  · exact ⟨rfl, rfl⟩

/-! ### Requests of management -/

/-- A reply after a change that the laws do not read. -/
theorem State.view_complete_after {s u : State} {n : Nat} {r : Result} {p : List Byte}
    (h : u.lawView = s.lawView ∧ u.claimLists = s.claimLists) :
    (u.complete n r p).lawView = s.lawView ∧ (u.complete n r p).claimLists = s.claimLists := by
  simp [h]

theorem State.view_storeSettings (t : Settings) (s : State) :
    (s.storeSettings t).lawView = s.lawView ∧ (s.storeSettings t).claimLists = s.claimLists := by
  unfold State.storeSettings
  dsimp only
  split <;> exact ⟨rfl, rfl⟩

theorem State.view_enableWindow (i : WindowIndex) (b : Bool) (s : State) :
    (s.enableWindow i b).lawView = s.lawView ∧ (s.enableWindow i b).claimLists = s.claimLists := by
  unfold State.enableWindow
  dsimp only
  split <;> simp

/-- Every request but ENROL, DELETE and WRITE_CIRCUIT leaves slots, roster and claims as they were. -/
theorem State.view_serve (c : Instr) (s : State) (he : ∀ a b n k p, c ≠ .enrol a b n k p) (hd : ∀ a b n, c ≠ .delete a b n)
    (hw : ∀ a b n f, c ≠ .writeCircuit a b n f) :
    (s.serve c).lawView = s.lawView ∧ (s.serve c).claimLists = s.claimLists := by
  cases c with
  | enrol => exact absurd rfl (he _ _ _ _ _)
  | delete => exact absurd rfl (hd _ _ _)
  | writeCircuit => exact absurd rfl (hw _ _ _ _)
  | readStatus => exact State.view_complete _ _ _ _
  | readEntry =>
    unfold State.serve State.reqReadEntry
    dsimp only
    split <;> simp
  | readUnrouted =>
    unfold State.serve State.reqReadUnrouted
    dsimp only
    split
    · simp
    · exact State.view_complete_after ⟨rfl, rfl⟩
  | clearFlags => exact State.view_complete_after ⟨rfl, rfl⟩
  | setMask =>
    unfold State.serve State.reqSetMask
    dsimp only
    split <;> simp
  | restart =>
    unfold State.serve State.reqRestart
    dsimp only
    split
    · simp
    · exact State.view_complete_after ⟨rfl, rfl⟩
  | writeSettings =>
    unfold State.serve State.reqWriteSettings
    dsimp only
    repeat' split
    all_goals simp [State.view_storeSettings]
  | save =>
    unfold State.serve State.reqSave
    dsimp only
    split
    · simp
    · exact State.view_complete_after ⟨rfl, rfl⟩
  | verify =>
    unfold State.serve State.reqVerify
    dsimp only
    repeat' split
    · simp
    · simp
    · exact ⟨rfl, rfl⟩
  | writeWindow =>
    unfold State.serve State.reqWriteWindow
    dsimp only
    repeat' split
    all_goals simp
  | setWindow =>
    unfold State.serve State.reqSetWindow
    dsimp only
    repeat' split
    all_goals simp [State.view_enableWindow]
  | addGroupMember =>
    unfold State.serve State.reqAddGroupMember State.addMember
    dsimp only
    repeat' split
    all_goals simp
  | removeGroupMember =>
    unfold State.serve State.reqRemoveGroupMember
    dsimp only
    repeat' split
    all_goals simp
  | setLevel =>
    unfold State.serve State.reqSetLevel
    dsimp only
    split
    · exact State.view_request _ rfl
    · simp
  | releaseLayer =>
    unfold State.serve State.reqReleaseLayer
    dsimp only
    repeat' split
    · exact State.view_request _ rfl
    · simp
    · simp
  | setSceneEntry =>
    unfold State.serve State.reqSetSceneEntry State.storeSceneEntry
    dsimp only
    repeat' split
    all_goals simp
  | clearSceneEntry =>
    unfold State.serve State.reqClearSceneEntry
    dsimp only
    repeat' split
    all_goals simp
  | setSceneFade =>
    unfold State.serve State.reqSetSceneFade
    dsimp only
    repeat' split
    all_goals simp
  | captureScene =>
    unfold State.serve State.reqCaptureScene
    dsimp only
    repeat' split
    · simp
    · exact State.view_request _ rfl
    · simp
  | setMode =>
    unfold State.serve State.reqSetMode
    dsimp only
    split
    · exact State.view_request { s with cues := { s.cues with pin := _ } } rfl
    · simp
  | fireCue =>
    unfold State.serve State.reqFireCue
    dsimp only
    split <;> simp
  | clearPending =>
    unfold State.serve State.reqClearPending
    dsimp only
    split <;> simp
  | setMaster =>
    unfold State.serve State.reqSetMaster
    dsimp only
    split <;> simp
  | _ => exact ⟨rfl, rfl⟩

end Sys2Proof.Machine
end

section
/-! SUPPORT. What a safety write does to one circuit, and that the safety events, roster edits, misses and answers keep the slot laws, the
roster law and the law of absence. -/

namespace Sys2Proof.Machine

/-! ### A safety write on one circuit -/

/-- R69: a circuit that a safety write does not name stays as it was. -/
theorem State.safetyWrite_unnamed (s : State) (k : Slot) {w : Circuit → Option (Option Nat)} (fade : Nat) {c : Circuit}
    (h : w c = none) : (s.safetyWrite k w fade).circ c = s.circ c ∧ (s.safetyWrite k w fade).eng c = s.eng c := by
  unfold State.safetyWrite
  dsimp only
  constructor
  · rw [State.circ_deliver, State.circ_writeSlots, h]; rfl
  · rw [State.eng_deliver, h]; rfl

/-- R69: a circuit that a safety write names holds the new slot and its merge, and is published exactly when target or winning layer
changed. -/
theorem State.safetyWrite_named (s : State) (k : Slot) {w : Circuit → Option (Option Nat)} (fade : Nat) {c : Circuit}
    {content : Option Nat} {merged : Nat × WinLayer} (h : w c = some content)
    (hm : mergeCircuit s.cues.mode (s.eng c).attr.mergeRule ((s.circ c).setSlot k content) = merged) :
    (s.safetyWrite k w fade).circ c = { (s.circ c).setSlot k content with target := merged.1, winner := merged.2 } ∧
    (s.safetyWrite k w fade).eng c =
      if ((s.circ c).target, (s.circ c).winner) = merged then s.eng c
      else (s.eng c).published s.engine.masters { target := merged.1, winner := merged.2, fade := fade } := by
  have hcirc : (s.writeSlots k w).circ c = (s.circ c).setSlot k content := by rw [State.circ_writeSlots, h]
  have hmerge : (s.writeSlots k w).mergeOf c = merged := by
    unfold State.mergeOf
    rw [hcirc]; exact hm
  have hheld : ((s.circ c).setSlot k content).target = (s.circ c).target ∧
      ((s.circ c).setSlot k content).winner = (s.circ c).winner := by cases k <;> exact ⟨rfl, rfl⟩
  unfold State.safetyWrite
  dsimp only
  rw [State.circ_deliver, State.eng_deliver, h]
  simp only [Option.isSome_some, if_true, State.remerge, hmerge, hcirc, hheld]
  by_cases heq : merged = ((s.circ c).target, (s.circ c).winner)
  · subst heq
    rw [if_pos rfl, if_pos rfl]
    exact ⟨by cases k <;> rfl, rfl⟩
  · rw [if_neg heq, if_neg fun e => heq e.symm]
    exact ⟨rfl, rfl⟩

theorem ClaimCircuit.setSlot_claims (k : Slot) (content : Option Nat) (t : ClaimCircuit) :
    (t.setSlot k content).claims = t.claims := by cases k <;> rfl

theorem State.safetyWrite_claims (s : State) (k : Slot) (w : Circuit → Option (Option Nat)) (fade : Nat) (c : Circuit) :
    ((s.safetyWrite k w fade).circ c).claims = (s.circ c).claims := by
  cases h : w c with
  | none => rw [(s.safetyWrite_unnamed k fade h).1]
  | some content => rw [(s.safetyWrite_named k fade h rfl).1]; exact ClaimCircuit.setSlot_claims _ _ _

theorem State.safetyWrite_attr (s : State) (k : Slot) (w : Circuit → Option (Option Nat)) (fade : Nat) (c : Circuit) :
    ((s.safetyWrite k w fade).eng c).attr = (s.eng c).attr := by
  cases h : w c with
  | none => rw [(s.safetyWrite_unnamed k fade h).2]
  | some content =>
    rw [(s.safetyWrite_named k fade h rfl).2]
    split <;> simp

/-- The EGRESS slot of a circuit after a write of the EGRESS slots. -/
theorem State.safetyWrite_egress (s : State) (w : Circuit → Option (Option Nat)) (fade : Nat) (c : Circuit) :
    ((s.safetyWrite .egress w fade).circ c).egress = (w c).getD (s.circ c).egress ∧
      ((s.safetyWrite .egress w fade).circ c).loss = (s.circ c).loss := by
  cases h : w c with
  | none => rw [(s.safetyWrite_unnamed .egress fade h).1]; exact ⟨rfl, rfl⟩
  | some content => rw [(s.safetyWrite_named .egress fade h rfl).1]; exact ⟨rfl, rfl⟩

/-- The LOSS slot of a circuit after a write of the LOSS slots. -/
theorem State.safetyWrite_loss (s : State) (w : Circuit → Option (Option Nat)) (fade : Nat) (c : Circuit) :
    ((s.safetyWrite .loss w fade).circ c).loss = (w c).getD (s.circ c).loss ∧
      ((s.safetyWrite .loss w fade).circ c).egress = (s.circ c).egress := by
  cases h : w c with
  | none => rw [(s.safetyWrite_unnamed .loss fade h).1]; exact ⟨rfl, rfl⟩
  | some content => rw [(s.safetyWrite_named .loss fade h rfl).1]; exact ⟨rfl, rfl⟩

theorem State.emptyHeldSlots_empties (s t : State) (k : Slot) (c : Circuit) (h : (t.circ c).slot k = (s.circ c).slot k) :
    (s.emptyHeldSlots k c).getD ((t.circ c).slot k) = none := by
  unfold State.emptyHeldSlots
  cases hs : (s.circ c).slot k <;> simp_all

/-! ### Safety events -/

/-- A step that touches neither roster nor waiting order nor claims. -/
theorem KeepsLaws.of_slots {s t : State} (hp : t.part = s.part) (hr : t.line.roster = s.line.roster)
    (ho : t.claims.order = s.claims.order) (hc : ∀ c : Circuit, (t.circ c).claims = (s.circ c).claims)
    (he : s.EgressLaw → t.EgressLaw) (hl : s.LossLaw → t.LossLaw) : KeepsLaws s t where
  part := hp
  egress := he
  loss := hl
  roster h := by
    unfold State.RosterLaw State.absenceWaiting at h ⊢
    rw [hr, ho]; exact h
  absence h n hn c cl hcl := by
    unfold State.absent State.entryOf at hn
    rw [hr] at hn
    rw [hc] at hcl
    exact h n hn c cl hcl

theorem State.egressWrite_law (s : State) (ha : s.claims.egressAsserted = true)
    (h : ∀ c : Circuit, (s.eng c).attr.egress = false → (s.circ c).egress = none) : s.egressWrite.EgressLaw := by
  intro c
  have hslot := (s.safetyWrite_egress s.egressLevels 0 c).1
  have hattr := s.safetyWrite_attr .egress s.egressLevels 0 c
  unfold State.egressWrite
  rw [hslot, hattr, (s.safetyWrite_eq .egress s.egressLevels 0)]
  unfold State.egressLevels
  cases hf : (s.eng c).attr.egress <;> simp [ha, h c, hf]

theorem State.EgressLaw.unflagged {s : State} (h : s.EgressLaw) {c : Circuit} (hf : (s.eng c).attr.egress = false) :
    (s.circ c).egress = none := by rw [h c]; simp [hf]

theorem State.EgressLaw.released {s : State} (h : s.EgressLaw) (ha : s.claims.egressAsserted = false) (c : Circuit) :
    (s.circ c).egress = none := by rw [h c]; simp [ha]

/-- A write of the EGRESS slots leaves the LOSS slots and the declaration. -/
theorem State.LossLaw.safetyWrite_egress {s : State} (h : s.LossLaw) (w : Circuit → Option (Option Nat)) (fade : Nat) :
    (s.safetyWrite .egress w fade).LossLaw := fun hd c => by
  rw [(s.safetyWrite_egress w fade c).2]; exact h hd c

theorem KeepsLaws.egressAssertion (s : State) : KeepsLaws s s.egressAssertion := by
  unfold State.egressAssertion
  split
  · refine .of_slots rfl rfl rfl (fun c => State.safetyWrite_claims _ _ _ _ c) (fun h => ?_) fun h => ?_
    · exact State.egressWrite_law (s.setEgress true) rfl fun c hf => h.unflagged hf
    · exact State.LossLaw.safetyWrite_egress (s := s.setEgress true) h _ _
  · exact .refl s

theorem KeepsLaws.egressRelease (s : State) : KeepsLaws s s.egressRelease := by
  unfold State.egressRelease
  split
  · refine .of_slots rfl rfl rfl (fun c => State.safetyWrite_claims _ _ _ _ c) (fun _ c => ?_) fun h => ?_
    · rw [((s.setEgress false).safetyWrite_egress _ _ c).1]
      exact s.emptyHeldSlots_empties (s.setEgress false) .egress c rfl
    · exact State.LossLaw.safetyWrite_egress (s := s.setEgress false) h _ _
  · exact .refl s

/-- A write of the LOSS slots leaves the EGRESS slots, the input and the records of the circuits. -/
theorem State.EgressLaw.safetyWrite_loss {s : State} (h : s.EgressLaw) (w : Circuit → Option (Option Nat)) (fade : Nat) :
    (s.safetyWrite .loss w fade).EgressLaw := fun c => by
  rw [(s.safetyWrite_loss w fade c).2, s.safetyWrite_attr .loss w fade c]
  exact h c

theorem KeepsLaws.lineLossTimerExpiry (s : State) : KeepsLaws s s.lineLossTimerExpiry := by
  unfold State.lineLossTimerExpiry
  split
  · refine .of_slots rfl rfl rfl (fun c => State.safetyWrite_claims _ _ _ _ c) (fun h => ?_) fun _ hd => absurd hd (by simp [State.declareLost])
    exact State.EgressLaw.safetyWrite_loss
      (s := State.report .lineLost { s with line := { s.line with lossDeclared := true, lossTimer := none } }) h _ _
  · exact .refl s

/-- R166: LINE_OK empties every LOSS slot. -/
theorem KeepsLaws.declareOk (s : State) : KeepsLaws s s.declareOk := by
  refine .of_slots rfl rfl rfl (fun c => State.safetyWrite_claims _ _ _ _ c) (fun h => ?_) fun _ _ c => ?_
  · exact State.EgressLaw.safetyWrite_loss (s := { s with line := { s.line with lossDeclared := false } }) h _ _
  · unfold State.declareOk
    dsimp only
    rw [(State.safetyWrite_loss _ _ _ c).1]
    exact State.emptyHeldSlots_empties _ { s with line := { s.line with lossDeclared := false } } .loss c rfl

@[simp] theorem State.view_startLossTimer (s : State) :
    s.startLossTimer.lawView = s.lawView ∧ s.startLossTimer.claimLists = s.claimLists := by
  unfold State.startLossTimer
  split <;> exact ⟨rfl, rfl⟩

theorem KeepsLaws.lineHeard (s : State) : KeepsLaws s s.lineHeard := by
  unfold State.lineHeard
  split
  · exact (KeepsLaws.declareOk s).trans (.of_view (State.view_startLossTimer _))
  · exact .of_view (State.view_startLossTimer s)

/-! ### WRITE_CIRCUIT -/

theorem State.storeAttr_attr (s : State) (c : Circuit) (a : Attr) (k : Circuit) :
    ((s.storeAttr c a).eng k).attr = if k = c then a else (s.eng k).attr := by
  unfold State.storeAttr
  split
  · next h => subst h; exact congrArg EngineCircuit.attr (set_same _ _ _)
  · next h => exact congrArg EngineCircuit.attr (set_other _ _ h)

/-- A rewrite of the EGRESS slot of one circuit is a write of the EGRESS slots, or nothing. -/
theorem State.rewriteEgress_cases (t : State) (c : Circuit) (old new : Attr) :
    t.rewriteEgress c old new = t ∨ ∃ w fade, t.rewriteEgress c old new = t.safetyWrite .egress w fade := by
  unfold State.rewriteEgress
  split
  · split
    · exact .inr ⟨_, _, rfl⟩
    · split
      · exact .inr ⟨_, _, rfl⟩
      · exact .inl rfl
  · exact .inl rfl

/-- The EGRESS slot of the circuit that a WRITE_CIRCUIT names, while an assertion is in force. -/
theorem State.onlyCircuit_law {s : State} {c : Circuit} {a : Attr} {content : Option Nat} (fade : Nat) (h : s.EgressLaw)
    (hs : s.claims.egressAsserted = true) (hc : content = if a.egress then some a.egressLevel else none) :
    ((s.storeAttr c a).safetyWrite .egress (onlyCircuit c content) fade).EgressLaw := by
  intro k
  rw [((s.storeAttr c a).safetyWrite_egress _ _ k).1, (s.storeAttr c a).safetyWrite_attr, s.storeAttr_attr]
  show _ = if s.claims.egressAsserted = true ∧ _ then _ else _
  unfold onlyCircuit
  by_cases hk : k = c
  · simp [hk, hs, hc]
  · simp [hk, h k]

/-- R127: the record stored and the EGRESS slot rewritten keep, together, the slots in step with the flags. -/
theorem State.EgressLaw.rewriteEgress {s : State} (h : s.EgressLaw) (c : Circuit) (a : Attr) :
    ((s.storeAttr c a).rewriteEgress c (s.eng c).attr a).EgressLaw := by
  have same : s.claims.egressAsserted = false ∨ (a.egress = false ∧ (s.eng c).attr.egress = false) →
      (s.storeAttr c a).EgressLaw := fun hcase k => by
    show (s.circ k).egress = if s.claims.egressAsserted = true ∧ _ then _ else _
    rw [s.storeAttr_attr]
    rcases hcase with ha | ⟨hnew, hold⟩
    · rw [h.released ha]; simp [ha]
    · by_cases hk : k = c
      · subst hk
        rw [h.unflagged hold]; simp [hnew]
      · rw [if_neg hk]; exact h k
  unfold State.rewriteEgress
  split
  · next ha =>
    split
    · next hnew => exact State.onlyCircuit_law _ h ha (by simp [hnew])
    · next hnew =>
      split
      · exact State.onlyCircuit_law _ h ha (by simp [hnew])
      · next hold => exact same (.inr ⟨by simpa using hnew, by simpa using hold⟩)
  · next ha => exact same (.inl (by simpa using ha))

theorem KeepsLaws.rewriteEgress (s : State) (c : Circuit) (a : Attr) :
    KeepsLaws s ((s.storeAttr c a).rewriteEgress c (s.eng c).attr a) := by
  have hegress : s.EgressLaw → _ := fun h => h.rewriteEgress c a
  rcases (s.storeAttr c a).rewriteEgress_cases c (s.eng c).attr a with e | ⟨w, fade, e⟩ <;> rw [e] at hegress ⊢
  · exact .of_slots rfl rfl rfl (fun _ => rfl) hegress id
  · exact .of_slots rfl rfl rfl ((s.storeAttr c a).safetyWrite_claims _ _ _) hegress
      fun h => State.LossLaw.safetyWrite_egress (s := s.storeAttr c a) h w fade

theorem KeepsLaws.reqWriteCircuit (sender circuit : Nat) (f : CircuitFields) (s : State) :
    KeepsLaws s (s.reqWriteCircuit sender circuit f) := by
  unfold State.reqWriteCircuit
  split
  · exact .of_view (State.view_complete _ _ _ _)
  · next c _ =>
    split
    · exact .of_view (State.view_complete _ _ _ _)
    · split
      · exact .of_view (State.view_complete _ _ _ _)
      · next a _ =>
        unfold State.storeCircuit
        dsimp only
        split
        · exact (KeepsLaws.rewriteEgress s c a).trans (.of_view (State.view_complete _ _ _ _))
        · have asked : KeepsLaws s (s.request (.mergeRule sender c (clampCircuit f != f))) := .of_view (s.view_request rfl)
          exact asked.trans (KeepsLaws.rewriteEgress _ c a)

end Sys2Proof.Machine
end

section
/-! SUPPORT. Roster edits, misses and answers, and that they keep the slot laws, the roster law and the law of absence. -/

namespace Sys2Proof.Machine

/-! ### Entries and absence requests -/

theorem State.station_of_entryOf {s : State} {n : Nat} {e : RosterEntry} (h : s.entryOf n = some e) : e.station = n := by
  simpa using List.find?_some h

theorem State.mem_of_entryOf {s : State} {n : Nat} {e : RosterEntry} (h : s.entryOf n = some e) : e ∈ s.line.roster :=
  List.mem_of_find?_eq_some h

theorem State.ne_of_entryOf_none {s : State} {n : Nat} (h : s.entryOf n = none) {e : RosterEntry} (he : e ∈ s.line.roster) :
    e.station ≠ n := by
  simpa using List.find?_eq_none.mp h e he

/-- An entry changed by a function that keeps its station: what is found at a number. -/
theorem State.absent_modifyEntry (s : State) (n : Nat) {f : RosterEntry → RosterEntry} (hf : ∀ e, (f e).station = e.station)
    (m : Nat) :
    (s.modifyEntry n f).absent m = if m = n then (s.entryOf m).any fun e => (f e).live == .absent else s.absent m := by
  unfold State.absent
  rw [State.entryOf_modifyEntry s n m f hf]
  cases h : s.entryOf m with
  | none => simp
  | some e =>
    obtain rfl := State.station_of_entryOf h
    by_cases hm : e.station = n <;> simp [hm]

@[simp] theorem State.absenceWaiting_withdrawAbsence (s : State) (n m : Nat) :
    (s.withdrawAbsence n).absenceWaiting m = (!decide (m = n) && s.absenceWaiting m) := by
  unfold State.withdrawAbsence State.withdraw State.absenceWaiting
  rw [Bool.eq_iff_iff]
  simp [List.mem_filter, and_comm]

@[simp] theorem State.absenceWaiting_request (s : State) (r : Request) (m : Nat) :
    (s.request r).absenceWaiting m = (s.absenceWaiting m || decide (r = .absence m)) := by
  unfold State.absenceWaiting
  rw [State.request_claims, Bool.eq_iff_iff, List.contains_iff_mem, List.mem_append, List.mem_singleton, Bool.or_eq_true,
    List.contains_iff_mem, decide_eq_true_iff, eq_comm (a := r)]

/-- A roster with the entries of one station changed keeps the roster law when the new entries meet it. -/
theorem State.RosterLaw.modified {s t : State} {n : Nat} {f : RosterEntry → RosterEntry} (h : s.RosterLaw)
    (ht : t.line.roster = (s.modifyEntry n f).line.roster) (hf : ∀ e, (f e).station = e.station)
    (hn : ∀ e ∈ s.line.roster, e.station = n → 1 ≤ (f e).controls ∧ (f e).controls ≤ 32 ∧ (f e).missed ≤ Config.missLimit ∧
      ((f e).missed = Config.missLimit → (f e).live = .absent ∨ t.absenceWaiting n = true))
    (hw : ∀ m, m ≠ n → s.absenceWaiting m = true → t.absenceWaiting m = true) : t.RosterLaw := by
  obtain ⟨hsorted, hlength, hgood⟩ := h
  have hst : ∀ e : RosterEntry, (if e.station = n then f e else e).station = e.station := fun e => by split <;> simp [hf]
  unfold State.RosterLaw
  rw [ht, State.modifyEntry_line]
  refine ⟨?_, by simpa using hlength, fun x hx => ?_⟩
  · rw [List.pairwise_map]
    simpa only [hst] using hsorted
  · obtain ⟨e, he, rfl⟩ := List.mem_map.mp hx
    obtain ⟨h1, h2, h3, h4, h5, h6⟩ := hgood e he
    rw [hst e]
    by_cases hen : e.station = n
    · rw [if_pos hen]
      obtain ⟨k1, k2, k3, k4⟩ := hn e he hen
      exact ⟨h1, h2, k1, k2, k3, by rw [hen]; exact k4⟩
    · rw [if_neg hen]
      exact ⟨h1, h2, h3, h4, h5, fun hm => (h6 hm).imp_right (hw _ hen)⟩

/-- The law of absence after a step that makes no station ABSENT and places no claim. -/
theorem State.AbsenceLaw.mono {s t : State} (h : s.AbsenceLaw) (ha : ∀ n, t.absent n = true → s.absent n = true)
    (hc : ∀ c : Circuit, (t.circ c).claims = (s.circ c).claims) : t.AbsenceLaw := fun n hn c cl hcl => by
  rw [hc] at hcl
  exact h n (ha n hn) c cl hcl

/-- A step that changes neither slots nor claims, with the roster and the absence requests as they may be. -/
theorem KeepsLaws.of_roster {s t : State} (hp : t.part = s.part) (hd : t.line.lossDeclared = s.line.lossDeclared)
    (ha : t.claims.egressAsserted = s.claims.egressAsserted) (hc : t.claims.circuits = s.claims.circuits)
    (he : t.engine = s.engine) (hr : s.RosterLaw → t.RosterLaw) (hn : ∀ n, t.absent n = true → s.absent n = true) :
    KeepsLaws s t where
  part := hp
  egress h c := by unfold State.circ State.eng; rw [hc, he, ha]; exact h c
  loss h hl c := by unfold State.circ; rw [hc]; exact h (hd ▸ hl) c
  roster := hr
  absence h := h.mono hn fun c => by unfold State.circ; rw [hc]

/-! ### Answers and misses -/

/-- R8, R19: an entry that is not ABSENT and has missed no answer needs no absence request. -/
theorem KeepsLaws.modify_withdraw (s : State) (n : Nat) {f : RosterEntry → RosterEntry}
    (hf : ∀ e, (f e).station = e.station ∧ (f e).live ≠ .absent ∧ (f e).missed = 0)
    (hk : ∀ e, 1 ≤ e.controls → e.controls ≤ 32 → 1 ≤ (f e).controls ∧ (f e).controls ≤ 32) :
    KeepsLaws s ((s.modifyEntry n f).withdrawAbsence n) := by
  have hst : ∀ e, (f e).station = e.station := fun e => (hf e).1
  refine .of_roster rfl rfl rfl rfl rfl (fun h => h.modified (n := n) (f := f) rfl hst (fun e he _ => ?_) fun m hm hw => ?_)
    fun m hm => ?_
  · obtain ⟨-, -, h3, h4, -⟩ := h.2.2 e he
    obtain ⟨k1, k2⟩ := hk e h3 h4
    exact ⟨k1, k2, by rw [(hf e).2.2]; decide, fun h0 => absurd h0 (by rw [(hf e).2.2]; decide)⟩
  · rw [State.absenceWaiting_withdrawAbsence]
    exact Bool.and_eq_true_iff.mpr ⟨by simpa using hm, hw⟩
  · have hm' : (s.modifyEntry n f).absent m = true := hm
    rw [State.absent_modifyEntry s n hst] at hm'
    split at hm'
    · obtain ⟨e, -, he⟩ := (Option.any_eq_true _ _).mp hm'
      exact absurd (by simpa using he) (hf e).2.1
    · exact hm'

theorem KeepsLaws.miss {s : State} {n : Nat} {e : RosterEntry} (he : s.entryOf n = some e) : KeepsLaws s (s.miss e) := by
  have hen := State.station_of_entryOf he
  subst hen
  unfold State.miss
  split
  · exact .refl s
  · next hcase =>
    rw [not_or] at hcase
    obtain ⟨hlive, hwait⟩ := hcase
    have habsent : ∀ m, (s.modifyEntry e.station fun x => { x with missed := e.missed + 1 }).absent m = true →
        s.absent m = true := fun m hm => by
      rw [State.absent_modifyEntry s e.station (f := fun x => { x with missed := e.missed + 1 }) (fun _ => rfl)] at hm
      split at hm
      · unfold State.absent
        cases h : s.entryOf m <;> simp_all
      · exact hm
    have hmissed : s.RosterLaw → e.missed + 1 ≤ Config.missLimit := fun h => by
      obtain ⟨-, -, -, -, h5, h6⟩ := h.2.2 e (State.mem_of_entryOf he)
      have : e.missed ≠ Config.missLimit := fun hm => (h6 hm).elim hlive hwait
      omega
    have hgood : ∀ (t : State), s.RosterLaw → (Config.missLimit ≤ e.missed + 1 → t.absenceWaiting e.station = true) →
        ∀ x ∈ s.line.roster, x.station = e.station →
        1 ≤ x.controls ∧ x.controls ≤ 32 ∧ e.missed + 1 ≤ Config.missLimit ∧
        (e.missed + 1 = Config.missLimit → x.live = .absent ∨ t.absenceWaiting e.station = true) := fun t h ht x hx _ => by
      obtain ⟨-, -, h3, h4, -⟩ := h.2.2 x hx
      exact ⟨h3, h4, hmissed h, fun hm => .inr (ht hm.ge)⟩
    dsimp only
    split
    · refine .of_roster rfl rfl rfl rfl rfl (fun h => h.modified (f := fun x => { x with missed := e.missed + 1 }) rfl
        (fun _ => rfl) (hgood _ h fun _ => ?_) fun m _ hw => ?_) habsent
      · rw [State.absenceWaiting_request]; simp
      · rw [State.absenceWaiting_request]
        have : (s.modifyEntry e.station fun x => { x with missed := e.missed + 1 }).absenceWaiting m = true := hw
        simp [this]
    · next hlimit =>
      exact .of_roster rfl rfl rfl rfl rfl (fun h => h.modified (f := fun x => { x with missed := e.missed + 1 }) rfl
        (fun _ => rfl) (hgood _ h fun hm => absurd hm hlimit) fun _ _ hw => hw) habsent

theorem KeepsLaws.judgeMiss (n : Nat) (s : State) : KeepsLaws s (s.judgeMiss n) := by
  unfold State.judgeMiss
  split
  · next he => exact .miss he
  · exact .refl s

/-! ### Roster edits -/

theorem insertStation_perm (e : RosterEntry) (l : List RosterEntry) : (insertStation e l).Perm (e :: l) := by
  induction l with
  | nil => exact .refl _
  | cons x rest ih =>
    unfold insertStation
    split
    · exact .refl _
    · exact (ih.cons x).trans (.swap e x rest)

theorem mem_insertStation {e x : RosterEntry} {l : List RosterEntry} : x ∈ insertStation e l ↔ x = e ∨ x ∈ l := by
  rw [(insertStation_perm e l).mem_iff, List.mem_cons]

/-- R1: a new entry goes into its ascending place. -/
theorem insertStation_sorted {e : RosterEntry} {l : List RosterEntry} (h : l.Pairwise fun a b => a.station < b.station)
    (hne : ∀ x ∈ l, x.station ≠ e.station) : (insertStation e l).Pairwise fun a b => a.station < b.station := by
  induction l with
  | nil => simp [insertStation]
  | cons x rest ih =>
    obtain ⟨hx, hrest⟩ := List.pairwise_cons.mp h
    unfold insertStation
    split
    · next hlt =>
      refine List.pairwise_cons.mpr ⟨fun y hy => ?_, h⟩
      rcases List.mem_cons.mp hy with rfl | hy
      · exact hlt
      · exact hlt.trans (hx y hy)
    · next hle =>
      refine List.pairwise_cons.mpr ⟨fun y hy => ?_, ih hrest fun y hy => hne y (List.mem_cons_of_mem _ hy)⟩
      rcases mem_insertStation.mp hy with rfl | hy
      · have := hne x List.mem_cons_self
        omega
      · exact hx y hy

theorem find?_insertStation_other (e : RosterEntry) {m : Nat} (h : e.station ≠ m) (l : List RosterEntry) :
    (insertStation e l).find? (·.station == m) = l.find? (·.station == m) := by
  induction l with
  | nil => simp [insertStation, h]
  | cons x rest ih =>
    unfold insertStation
    split
    · simp [h]
    · simp [List.find?_cons, ih]

theorem find?_insertStation_self (e : RosterEntry) {l : List RosterEntry} (h : ∀ x ∈ l, x.station ≠ e.station) :
    (insertStation e l).find? (·.station == e.station) = some e := by
  induction l with
  | nil => simp [insertStation]
  | cons x rest ih =>
    unfold insertStation
    split
    · simp
    · have hx := h x List.mem_cons_self
      simp [hx, ih fun y hy => h y (List.mem_cons_of_mem _ hy)]

/-- R19: an insertion of a new entry within the capacity. -/
theorem KeepsLaws.setRoster_insert {s : State} {e : RosterEntry} (hno : s.entryOf e.station = none)
    (hlen : s.line.roster.length < Config.rosterMax) (hst : 1 ≤ e.station ∧ e.station ≤ Config.stationMax)
    (hk : 1 ≤ e.controls ∧ e.controls ≤ 32) (hm : e.missed = 0) (hl : e.live ≠ .absent) :
    KeepsLaws s (s.setRoster (insertStation e s.line.roster)) := by
  have hne : ∀ x ∈ s.line.roster, x.station ≠ e.station := fun x hx => State.ne_of_entryOf_none hno hx
  refine .of_roster rfl rfl rfl rfl rfl (fun ⟨hsorted, _, hgood⟩ => ?_) fun n hn => ?_
  · refine ⟨insertStation_sorted hsorted hne, ?_, fun x hx => ?_⟩
    · simpa [(insertStation_perm e s.line.roster).length_eq] using hlen
    · rcases mem_insertStation.mp hx with rfl | hx
      · exact ⟨hst.1, hst.2, hk.1, hk.2, by rw [hm]; decide, fun h0 => absurd h0 (by rw [hm]; decide)⟩
      · exact hgood x hx
  · unfold State.absent State.entryOf at hn ⊢
    rw [State.setRoster_line] at hn
    by_cases he : e.station = n
    · subst he
      rw [find?_insertStation_self e hne] at hn
      exact absurd (by simpa using hn) hl
    · rwa [find?_insertStation_other e he] at hn

theorem clamp_mem (lo hi n : Nat) (h : lo ≤ hi) : lo ≤ clamp lo hi n ∧ clamp lo hi n ≤ hi := by
  unfold clamp; omega

theorem enrolNumber_iff (n : Nat) : enrolNumber n = true ↔ 1 ≤ n ∧ n ≤ Config.stationMax := by
  simp [enrolNumber]

theorem KeepsLaws.replaceEntry (station controls : Nat) (p : Privilege) (s : State) (hk : 1 ≤ controls ∧ controls ≤ 32) :
    KeepsLaws s (s.replaceEntry station controls p) :=
  (KeepsLaws.modify_withdraw s station
    (f := fun e => { e with controls := controls, privilege := p, live := .unknown, missed := 0 })
    (fun _ => ⟨rfl, by simp, rfl⟩) fun _ _ _ => hk).trans (.of_view (State.view_dropShots _ _ _))

theorem KeepsLaws.insertEntry {station controls : Nat} (p : Privilege) {s : State} (hno : s.entryOf station = none)
    (hlen : s.line.roster.length < Config.rosterMax) (hst : 1 ≤ station ∧ station ≤ Config.stationMax)
    (hk : 1 ≤ controls ∧ controls ≤ 32) : KeepsLaws s (s.insertEntry station controls p) := by
  have added := KeepsLaws.setRoster_insert
    (e := { station := station, controls := controls, privilege := p, live := .unknown, missed := 0, slot := none })
    hno hlen hst hk rfl (by simp)
  unfold State.insertEntry
  dsimp only
  split
  · exact added.trans (.of_view (by simp))
  · exact added.trans (.of_view (by simp))

theorem KeepsLaws.reqEnrol (sender station controls privilege : Nat) (s : State) :
    KeepsLaws s (s.reqEnrol sender station controls privilege) := by
  have hk := clamp_mem 1 32 controls (by omega)
  unfold State.reqEnrol
  split
  · next p hst _ =>
    split
    · exact .of_view (State.view_complete _ _ _ _)
    · unfold State.storeEntry
      dsimp only
      split
      · exact (KeepsLaws.replaceEntry _ _ p s hk).trans (.of_view (State.view_complete _ _ _ _))
      · next hno =>
        split
        · next hlen =>
          have hnone : s.entryOf station = none := by simpa [State.enrolled] using hno
          exact (KeepsLaws.insertEntry p hnone hlen ((enrolNumber_iff _).mp hst) hk).trans (.of_view (State.view_complete _ _ _ _))
        · exact .of_view (State.view_complete _ _ _ _)
  · exact .of_view (State.view_complete _ _ _ _)

/-- What is found at a number after the entry of a station is removed. -/
theorem State.entryOf_filter (s : State) (n m : Nat) :
    (s.setRoster (s.line.roster.filter (·.station != n))).entryOf m = if m = n then none else s.entryOf m := by
  unfold State.entryOf
  rw [State.setRoster_line, List.find?_filter]
  split
  · next h =>
    subst h
    rw [List.find?_eq_none]
    intro x _
    by_cases hx : x.station = m <;> simp [hx]
  · next h =>
    congr 1
    funext x
    by_cases hx : x.station = m <;> simp [hx, h]

@[simp] theorem State.view_discardReply (n : Nat) (e : RosterEntry) (s : State) :
    (s.discardReply n e).lawView = s.lawView ∧ (s.discardReply n e).claimLists = s.claimLists := by
  unfold State.discardReply
  split <;> exact ⟨rfl, rfl⟩

@[simp] theorem State.view_requestRemoval (n : Nat) (s : State) :
    (s.requestRemoval n).lawView = s.lawView ∧ (s.requestRemoval n).claimLists = s.claimLists := by
  unfold State.requestRemoval
  split
  · exact ⟨rfl, rfl⟩
  · exact State.view_request s rfl

theorem KeepsLaws.rosterEmptied (s : State) : KeepsLaws s s.rosterEmptied := by
  unfold State.rosterEmptied
  split
  · dsimp only
    have stopped : KeepsLaws s { s with line := { s.line with lossTimer := none } } := .of_view ⟨rfl, rfl⟩
    split
    · exact stopped.trans (.declareOk _)
    · exact stopped
  · exact .refl s

/-- R20: the entry and the absence request of a station go together. -/
theorem KeepsLaws.remove_withdraw (s : State) (n : Nat) :
    KeepsLaws s ((s.setRoster (s.line.roster.filter (·.station != n))).withdrawAbsence n) := by
  refine .of_roster rfl rfl rfl rfl rfl (fun ⟨hsorted, hlength, hgood⟩ => ?_) fun m hm => ?_
  · refine ⟨hsorted.filter _, (List.length_filter_le _ _).trans hlength, fun x hx => ?_⟩
    obtain ⟨hx, hne⟩ := List.mem_filter.mp hx
    obtain ⟨h1, h2, h3, h4, h5, h6⟩ := hgood x hx
    refine ⟨h1, h2, h3, h4, h5, fun h0 => (h6 h0).imp_right fun hw => ?_⟩
    rw [State.absenceWaiting_withdrawAbsence]
    exact Bool.and_eq_true_iff.mpr ⟨by simpa using hne, hw⟩
  · have hm' : (s.setRoster (s.line.roster.filter (·.station != n))).absent m = true := hm
    unfold State.absent at hm' ⊢
    rw [State.entryOf_filter] at hm'
    split at hm'
    · next h =>
      split at h
      · cases h
      · rw [h]; exact hm'
    · cases hm'

theorem KeepsLaws.removeEntry (n : Nat) (e : RosterEntry) (s : State) : KeepsLaws s (s.removeEntry n e) := by
  refine (KeepsLaws.remove_withdraw s n).trans (.trans (.of_view ?_) (.rosterEmptied _))
  simp

theorem KeepsLaws.reqDelete (sender station : Nat) (s : State) : KeepsLaws s (s.reqDelete sender station) := by
  unfold State.reqDelete
  split
  · split
    · exact .of_view (State.view_complete _ _ _ _)
    · split
      · next e _ => exact (KeepsLaws.removeEntry station e s).trans (.of_view (State.view_complete _ _ _ _))
      · exact .of_view (State.view_complete _ _ _ _)
  · exact .of_view (State.view_complete _ _ _ _)

/-! ### Requests, answers and the absence grant -/

theorem KeepsLaws.serve (c : Instr) (s : State) : KeepsLaws s (s.serve c) := by
  cases c with
  | enrol => exact .reqEnrol _ _ _ _ s
  | delete => exact .reqDelete _ _ s
  | writeCircuit => exact .reqWriteCircuit _ _ _ s
  | _ => exact .of_view (State.view_serve _ s (by simp) (by simp) (by simp))

theorem KeepsLaws.takeRequest (sender tag : Nat) {work : State → State} (h : ∀ s, KeepsLaws s (work s)) (s : State) :
    KeepsLaws s (s.takeRequest sender tag work) := by
  unfold State.takeRequest
  split
  · exact (KeepsLaws.of_view (s.view_beginRequest sender tag)).trans (h _)
  · exact .refl s

theorem KeepsLaws.checkRecord (sender : Nat) (r : Record) (s : State) : KeepsLaws s (s.checkRecord sender r) := by
  unfold State.checkRecord
  split
  · exact .of_view (by simp)
  · split
    · exact .of_view (by simp)
    · exact .of_view (by simp)
    · split
      · exact .of_view (by simp)
      · exact .serve _ s

theorem KeepsLaws.handRecord (sender : Nat) (r : Record) (s : State) : KeepsLaws s (s.handRecord sender r) :=
  .takeRequest sender r.tag (.checkRecord sender r) s

theorem KeepsLaws.takeEvents (station controls : Nat) (takes : List Nat) (l : List RawEvent) (s : State) :
    KeepsLaws s (State.takeEvents station controls takes l s) :=
  State.takeEvents_keeps (P := KeepsLaws s) (fun u h => h.trans (.of_steady (.claimActionGrant u)))
    (fun u h => h.trans (.of_view u.view_takeEventRecord)) (fun u r h => h.trans (.of_view (u.view_offerEvent r)))
    (fun u h => h.trans (.of_view (u.view_report _))) l takes s (.refl s)

theorem KeepsLaws.takeContents (station controls : Nat) (takes : List Nat) (a : Answer) (s : State) :
    KeepsLaws s (s.takeContents station controls takes a) := by
  cases a with
  | events l => exact .takeEvents station controls takes l s
  | management r => exact .handRecord station r s

theorem KeepsLaws.validAnswer (e : RosterEntry) (takes : List Nat) (a : Answer) (s : State) :
    KeepsLaws s (s.validAnswer e takes a) :=
  ((KeepsLaws.modify_withdraw s e.station (f := fun x => { x with live := .present, missed := 0 })
    (fun _ => ⟨rfl, by simp, rfl⟩) fun _ h1 h2 => ⟨h1, h2⟩).trans (.lineHeard _)).trans (.takeContents _ _ _ _ _)

theorem KeepsLaws.judgeValid (n : Nat) (takes : List Nat) (a : Answer) (s : State) : KeepsLaws s (s.judgeValid n takes a) := by
  unfold State.judgeValid
  split
  · exact .validAnswer _ takes a s
  · split
    · unfold State.serviceAnswer
      split
      · exact .refl s
      · exact .handRecord _ _ s
    · unfold State.discovered
      split
      · exact .of_view (State.view_offerUnrouted s _)
      · exact .refl s

theorem KeepsLaws.answerReceived (frame : Arrival) (s : State) : KeepsLaws s (s.answerReceived frame) := by
  unfold State.answerReceived
  split
  · refine KeepsLaws.trans ?_ (.of_view (State.view_nextVisit _))
    unfold State.judgeFrame
    split
    · exact .judgeValid _ _ _ s
    · exact (KeepsLaws.of_view (s.view_report .stationFrame)).trans (.judgeMiss _ _)
  · exact .refl s
  · exact .refl s

theorem KeepsLaws.answerTimeout (s : State) : KeepsLaws s s.answerTimeout := by
  unfold State.answerTimeout
  split
  · exact (KeepsLaws.judgeMiss _ s).trans (.of_view (State.view_nextVisit _))
  · exact .refl s
  · exact .refl s

/-- The head of the waiting order that the arbiter may grant. -/
theorem State.order_of_grantable {s : State} {r : Request} (h : s.grantable = some r) :
    s.claims.order = r :: s.takeHead.claims.order := by
  unfold State.grantable at h
  split at h
  · unfold State.takeHead
    cases ho : s.claims.order with
    | nil => rw [ho] at h; cases h
    | cons x rest => rw [ho] at h; simpa using h
  · cases h

/-- R10: a granted absence request leaves what the laws read as the change of its entry leaves it. -/
theorem State.lawView_grantAbsence (n : Nat) (s : State) :
    (s.grantAbsence n).lawView = (s.modifyEntry n fun e => { e with live := .absent }).lawView :=
  (State.view_closeSet _).1.trans
    (Steady.removeWhere (s.modifyEntry n fun e => { e with live := .absent }) fun _ cl => cl.ofStation n && cl.kind == .momentary).1

/-- R10: a granted absence request takes the MOMENTARY claims of its station. -/
theorem State.claimLists_grantAbsence (n : Nat) (s : State) (c : Circuit) :
    (s.grantAbsence n).claimLists c = (s.circ c).claims.filter fun cl => !(cl.ofStation n && cl.kind == .momentary) :=
  (congrFun (State.view_closeSet _).2 c).trans
    ((congrArg ClaimCircuit.claims (State.circ_removeWhere (s.modifyEntry n fun e => { e with live := .absent }) _ c)).trans
      (ClaimCircuit.claims_without _ _))

theorem KeepsLaws.absenceGrant (s : State) : KeepsLaws s s.absenceGrant := by
  unfold State.absenceGrant
  split
  · next n hg =>
    have horder := State.order_of_grantable hg
    have hview := s.takeHead.lawView_grantAbsence n
    have htaken : (s.takeHead.grantAbsence n).claims.order = s.takeHead.claims.order := State.closeSet_order _
    refine ⟨rfl, fun h c => ?_, fun h hd c => ?_, fun h => ?_, fun h m hm c cl hcl ho hk => ?_⟩
    · have he := h c
      show (s.takeHead.grantAbsence n).lawView.egress c = if (s.takeHead.grantAbsence n).lawView.asserted ∧
        ((s.takeHead.grantAbsence n).lawView.attrs c).egress then
          some ((s.takeHead.grantAbsence n).lawView.attrs c).egressLevel else none
      rw [hview]; exact he
    · show (s.takeHead.grantAbsence n).lawView.loss c = none
      rw [hview]; exact h hd c
    · refine h.modified (n := n) (f := fun e => { e with live := .absent }) rfl (fun _ => rfl) (fun e he _ => ?_)
        fun m hm hw => ?_
      · obtain ⟨-, -, h3, h4, h5, -⟩ := h.2.2 e he
        exact ⟨h3, h4, h5, fun _ => .inl rfl⟩
      · unfold State.absenceWaiting at hw ⊢
        rw [horder] at hw
        rw [htaken]
        simpa [hm] using hw
    · have hcl' : cl ∈ (s.takeHead.grantAbsence n).claimLists c := hcl
      rw [s.takeHead.claimLists_grantAbsence n c] at hcl'
      obtain ⟨hcl', hgone⟩ := List.mem_filter.mp hcl'
      by_cases hmn : m = n
      · subst hmn
        simp [ho, hk] at hgone
      · rw [State.absent_congr hview,
          State.absent_modifyEntry s.takeHead n (f := fun e => { e with live := .absent }) (fun _ => rfl), if_neg hmn] at hm
        exact h m hm c cl hcl' ho hk
  · exact .refl s

end Sys2Proof.Machine
end

section
/-! PROOFS. LOADING stays fresh and takes no event (O3, O15); every step keeps the slot laws, the roster law and the law of absence
(O7, O8). -/

namespace Sys2Proof.Machine

/-! ### Commands as functions of the state -/

/-- R182: a request is taken with its station and tag, and then served. -/
theorem exec_request {c : Instr} {f : RequestForm} (h : requestForm c = some f) (s : State) :
    exec c s = .next (s.takeRequest f.sender f.tag (State.serve c)) := by
  cases c <;> cases h <;> rfl

/-- Every command but POWER_ON, POWER_LOSS, LOADING_END and POLL_SENT keeps the part state and the laws. -/
theorem exec_keepsLaws {c : Instr} (s : State) (hon : c ≠ .powerOn) (hoff : ∀ done rest, c ≠ .powerLoss done rest)
    (hend : ∀ x y z, c ≠ .loadingEnd x y z) (hsent : c ≠ .pollSent) : ∃ t, exec c s = .next t ∧ KeepsLaws s t := by
  cases hf : requestForm c with
  | some f => exact ⟨_, exec_request hf s, .takeRequest _ _ (.serve c) s⟩
  | none =>
    cases c with
    | powerOn => exact absurd rfl hon
    | powerLoss => exact absurd rfl (hoff _ _)
    | loadingEnd => exact absurd rfl (hend _ _ _)
    | pollSent => exact absurd rfl hsent
    | answerReceived => exact ⟨_, rfl, .answerReceived _ s⟩
    | answerWindowTimeout => exact ⟨_, rfl, .answerTimeout s⟩
    | strayStationFrame => exact ⟨_, rfl, .refl s⟩
    | lineLossTimerExpiry => exact ⟨_, rfl, .lineLossTimerExpiry s⟩
    | egressAssertion => exact ⟨_, rfl, .egressAssertion s⟩
    | egressRelease => exact ⟨_, rfl, .egressRelease s⟩
    | cueInputDebounced => exact ⟨_, rfl, .of_view (State.view_cueInput _ _ s)⟩
    | takeEventRecord => exact ⟨_, rfl, .of_view s.view_takeEventRecord⟩
    | claimActionGrant => exact ⟨_, rfl, .of_steady (.claimActionGrant s)⟩
    | absenceGrant => exact ⟨_, rfl, .absenceGrant s⟩
    | stationRemovalGrant => exact ⟨_, rfl, .of_steady (.stationRemovalGrant s)⟩
    | claimTimerExpiry => exact ⟨_, rfl, .of_steady (.claimTimerExpiry s)⟩
    | expiryGrant => exact ⟨_, rfl, .of_steady (.expiryGrant s)⟩
    | setLevelGrant => exact ⟨_, rfl, .of_steady (.setLevelGrant s)⟩
    | releaseLayerGrant => exact ⟨_, rfl, .of_steady (.releaseLayerGrant s)⟩
    | mergeRuleGrant => exact ⟨_, rfl, .of_steady (.mergeRuleGrant s)⟩
    | recallGrant => exact ⟨_, rfl, .of_steady (.recallGrant s)⟩
    | recallCompletion => exact ⟨_, rfl, .of_steady (.recallCompletion s)⟩
    | releaseGrant => exact ⟨_, rfl, .of_steady (.releaseGrant s)⟩
    | captureGrant => exact ⟨_, rfl, .of_steady (.captureGrant s)⟩
    | cueGrant => exact ⟨_, rfl, .of_steady (.cueGrant s)⟩
    | cueCompletion => exact ⟨_, rfl, .of_steady (.cueCompletion s)⟩
    | modeChangeGrant => exact ⟨_, rfl, .of_steady (.modeChangeGrant s)⟩
    | fadeStepTimerExpiry => exact ⟨_, rfl, .of_view s.view_fadeStep⟩
    | levelScheduleTimerExpiry => exact ⟨_, rfl, .of_view s.view_levelSchedule⟩
    | statusScheduleTimerExpiry => exact ⟨_, rfl, .of_view s.view_statusSchedule⟩
    | frameTransmitStart => exact ⟨_, rfl, .of_view s.view_transmitStart⟩
    | frameTransmitEnd => exact ⟨_, rfl, .of_view s.view_transmitEnd⟩
    | returnTimeout => exact ⟨_, rfl, .of_view s.view_returnTimeout⟩
    | loopFrameReceived => exact ⟨_, rfl, .of_view (s.view_loopFrameReceived _)⟩
    | saveCompletion => exact ⟨_, rfl, .of_view (s.view_saveCompletion _)⟩
    | verifyCompletion => exact ⟨_, rfl, .of_view s.view_verifyCompletion⟩
    | _ => cases hf

/-! ### LOADING -/

theorem State.enterLoading_fresh (s : State) : s.enterLoading.FreshInLoading := fun _ => rfl

@[simp] theorem State.enterLoading_part (s : State) : s.enterLoading.part = .loading := rfl

theorem State.FreshInLoading.withPending {s : State} (h : s.FreshInLoading) (l : List Instr) :
    (s.withPending l).FreshInLoading := fun hp => congrArg (State.withPending l) (h hp)

theorem State.circ_enterLoading (s : State) (c : Circuit) : s.enterLoading.circ c = .empty := by
  simp [State.enterLoading, State.circ, State.reset]

/-- After power-on or RESTART the laws hold, since every slot, list and roster is empty. -/
theorem State.enterLoading_laws (s : State) :
    s.enterLoading.EgressLaw ∧ s.enterLoading.LossLaw ∧ s.enterLoading.RosterLaw ∧ s.enterLoading.AbsenceLaw := by
  refine ⟨fun c => ?_, fun _ c => ?_, ⟨.nil, Nat.zero_le _, fun e he => absurd he List.not_mem_nil⟩, fun n hn => by cases hn⟩
  · rw [State.circ_enterLoading]; rfl
  · rw [State.circ_enterLoading]; rfl

/-- POLL_SENT restarts the part, or opens the answer window. -/
theorem State.pollSent_cases (s : State) : s.pollSent = s.enterLoading ∨ KeepsLaws s s.pollSent := by
  unfold State.pollSent
  split
  · split
    · exact .inl rfl
    · refine .inr (.of_view ?_)
      unfold State.replySent
      split <;> exact ⟨rfl, rfl⟩
  · exact .inr (.refl s)
  · exact .inr (.refl s)

theorem State.takes_loading {s : State} (h : s.part = .loading) (sender : Nat) : s.takes sender = false := by
  simp [State.takes, State.active, h]

theorem State.grantable_loading {s : State} (h : s.part = .loading) : s.grantable = none := by
  simp [State.grantable, State.active, h]

/-- A command that a fresh part in LOADING does not take, from what power-on leaves in its blocks. -/
theorem exec_loading {c : Instr} {s : State} (hp : s.part = .loading) (hfresh : s.enterLoading = s) (hon : c ≠ .powerOn)
    (hoff : ∀ done rest, c ≠ .powerLoss done rest) (hend : ∀ x y z, c ≠ .loadingEnd x y z) : exec c s = .next s := by
  have hline : s.line = State.reset.line := by rw [← hfresh]; rfl
  have hset : s.claims.openSet = none := by rw [← hfresh]; rfl
  have hintake : s.route.intake = [] := by rw [← hfresh]; rfl
  have hloop : s.loop = State.reset.loop := by rw [← hfresh]; rfl
  have hstore : s.store.state = .idle := by rw [← hfresh]; rfl
  have hactive : s.active = false := by simp [State.active, hp]
  have hgrant := State.grantable_loading hp
  have hphase : s.line.phase = .quiet := by rw [hline]; rfl
  cases hf : requestForm c with
  | some f => rw [exec_request hf, State.takeRequest_of_not_taken (State.takes_loading hp _)]
  | none =>
    cases c with
    | powerOn => exact absurd rfl hon
    | powerLoss => exact absurd rfl (hoff _ _)
    | loadingEnd => exact absurd rfl (hend _ _ _)
    | pollSent => simp [exec, execPollSent, State.pollSent, hphase]
    | answerReceived => simp [exec, execAnswerReceived, State.answerReceived, hphase]
    | answerWindowTimeout => simp [exec, execAnswerWindowTimeout, State.answerTimeout, hphase]
    | strayStationFrame => rfl
    | lineLossTimerExpiry => simp [exec, execLineLossTimerExpiry, State.lineLossTimerExpiry, hline, State.reset]
    | egressAssertion => simp [exec, execEgressAssertion, State.egressAssertion, hactive]
    | egressRelease => simp [exec, execEgressRelease, State.egressRelease, hactive]
    | cueInputDebounced => simp [exec, execCueInputDebounced, State.cueInput, hactive]
    | takeEventRecord => simp [exec, execTakeEventRecord, State.takeEventRecord, hintake]
    | claimActionGrant => simp [exec, execClaimActionGrant, State.claimActionGrant, hgrant]
    | absenceGrant => simp [exec, execAbsenceGrant, State.absenceGrant, hgrant]
    | stationRemovalGrant => simp [exec, execStationRemovalGrant, State.stationRemovalGrant, hgrant]
    | claimTimerExpiry => simp [exec, execClaimTimerExpiry, State.claimTimerExpiry, hactive]
    | expiryGrant => simp [exec, execExpiryGrant, State.expiryGrant, hgrant]
    | setLevelGrant => simp [exec, execSetLevelGrant, State.setLevelGrant, hgrant]
    | releaseLayerGrant => simp [exec, execReleaseLayerGrant, State.releaseLayerGrant, hgrant]
    | mergeRuleGrant => simp [exec, execMergeRuleGrant, State.mergeRuleGrant, hgrant]
    | recallGrant => simp [exec, execRecallGrant, State.recallGrant, hgrant]
    | recallCompletion => simp [exec, execRecallCompletion, State.recallCompletion, hset]
    | releaseGrant => simp [exec, execReleaseGrant, State.releaseGrant, hgrant]
    | captureGrant => simp [exec, execCaptureGrant, State.captureGrant, hgrant]
    | cueGrant => simp [exec, execCueGrant, State.cueGrant, hgrant]
    | cueCompletion => simp [exec, execCueCompletion, State.cueCompletion, hset]
    | modeChangeGrant => simp [exec, execModeChangeGrant, State.modeChangeGrant, hgrant]
    | fadeStepTimerExpiry => simp [exec, execFadeStepTimerExpiry, State.fadeStep, hactive]
    | levelScheduleTimerExpiry => simp [exec, execLevelScheduleTimerExpiry, State.levelSchedule, hp]
    | statusScheduleTimerExpiry => simp [exec, execStatusScheduleTimerExpiry, State.statusSchedule, hp]
    | frameTransmitStart => simp [exec, execFrameTransmitStart, State.transmitStart, hloop, State.reset]
    | frameTransmitEnd => simp [exec, execFrameTransmitEnd, State.transmitEnd, hloop, State.reset]
    | returnTimeout => simp [exec, execReturnTimeout, State.returnTimeout, hloop, State.reset]
    | loopFrameReceived => simp [exec, execLoopFrameReceived, State.loopFrameReceived, hloop, State.reset]
    | saveCompletion => simp [exec, execSaveCompletion, State.saveCompletion, hstore]
    | verifyCompletion => simp [exec, execVerifyCompletion, State.verifyCompletion, hstore]
    | _ => cases hf

/-- Settles O15: what power-on leaves in each block is what makes the events of LOADING ineffective. -/
theorem loadingIgnoresEveryEvent : Obligations.LoadingIgnoresEveryEvent :=
  fun _ _ hp hfresh hon hoff hend => exec_loading hp (hfresh hp) hon hoff hend

/-! ### The end of loading -/

theorem readMany_spec {α : Type} {one : Reader α} : ∀ {n : Nat} {bytes rest : List Byte} {l : List α},
    readMany one n bytes = some (l, rest) → l.length = n ∧ ∀ a ∈ l, ∃ x y, one x = some (a, y)
  | 0, _, _, _, h => by
    cases h
    exact ⟨rfl, fun _ ha => absurd ha List.not_mem_nil⟩
  | n + 1, bytes, rest, l, h => by
    unfold readMany at h
    split at h
    · cases h
    · next a mid ha =>
      split at h
      · cases h
      · next l' after hl =>
        cases h
        obtain ⟨hlen, hall⟩ := readMany_spec hl
        refine ⟨congrArg Nat.succ hlen, fun b hb => ?_⟩
        rcases List.mem_cons.mp hb with rfl | hb
        · exact ⟨_, _, ha⟩
        · exact hall b hb

theorem ascending_sorted : ∀ {l : List Nat}, ascending l = true → l.Pairwise (· < ·)
  | [], _ => .nil
  | [_], _ => List.pairwise_singleton _ _
  | a :: b :: rest, h => by
    unfold ascending at h
    obtain ⟨hab, hrest⟩ := Bool.and_eq_true_iff.mp h
    have hab : a < b := by simpa using hab
    have ih := ascending_sorted hrest
    refine List.pairwise_cons.mpr ⟨fun x hx => ?_, ih⟩
    rcases List.mem_cons.mp hx with rfl | hx
    · exact hab
    · exact hab.trans ((List.pairwise_cons.mp ih).1 x hx)

/-- R1, R173: a loaded entry keeps its ranges, is UNKNOWN, has missed no answer and holds no reply. -/
theorem rosterEntry_spec {bytes : List Byte} {e : RosterEntry} (h : rosterEntry bytes = some e) :
    1 ≤ e.station ∧ e.station ≤ Config.stationMax ∧ 1 ≤ e.controls ∧ e.controls ≤ 32 ∧ e.live = .unknown ∧ e.missed = 0 ∧
      e.slot = none := by
  unfold rosterEntry at h
  split at h
  · split at h
    · split at h
      · next hr =>
        cases h
        exact ⟨hr.1, hr.2.1, hr.2.2.1, hr.2.2.2, rfl, rfl, rfl⟩
      · cases h
    · cases h
  · cases h

theorem loadRoster_spec {bytes : List Byte} {l : List RosterEntry} (h : loadRoster bytes = some l) :
    l.Pairwise (fun a b => a.station < b.station) ∧ l.length ≤ Config.rosterMax ∧ ∀ e ∈ l, ∃ b, rosterEntry b = some e := by
  unfold loadRoster at h
  split at h
  · cases h
  · split at h
    · next n _ l' hw =>
      split at h
      · next hgood =>
        cases h
        obtain ⟨hmax, hasc⟩ := Bool.and_eq_true_iff.mp hgood
        unfold whole at hw
        split at hw
        · next hm =>
          cases hw
          obtain ⟨hlen, hall⟩ := readMany_spec hm
          refine ⟨List.pairwise_map.mp (ascending_sorted hasc), by simpa [hlen] using hmax, fun e he => ?_⟩
          obtain ⟨x, y, hx⟩ := hall e he
          unfold readFixed at hx
          cases hr : rosterEntry (x.take 3) with
          | none => rw [hr] at hx; cases hx
          | some e' => rw [hr] at hx; cases hx; exact ⟨_, hr⟩
        · cases hw
      · cases h
    · cases h

theorem loadImage_roster {image : Vector ImageSection 6} {T : Tables} (h : loadImage image = some T) :
    ∃ bytes, loadRoster bytes = some T.roster := by
  unfold loadImage at h
  split at h
  · next hr _ _ _ _ =>
    cases h
    obtain ⟨b, -, hb⟩ := Option.bind_eq_some_iff.mp hr
    exact ⟨b, hb⟩
  · cases h

/-- R173: the roster that a good image gives. -/
theorem loadImage_roster_good {image : Vector ImageSection 6} {T : Tables} (h : loadImage image = some T) :
    T.roster.Pairwise (fun a b => a.station < b.station) ∧ T.roster.length ≤ Config.rosterMax ∧
    ∀ e ∈ T.roster, 1 ≤ e.station ∧ e.station ≤ Config.stationMax ∧ 1 ≤ e.controls ∧ e.controls ≤ 32 ∧ e.live = .unknown ∧
      e.missed = 0 ∧ e.slot = none := by
  obtain ⟨bytes, hb⟩ := loadImage_roster h
  obtain ⟨hsorted, hlen, hall⟩ := loadRoster_spec hb
  exact ⟨hsorted, hlen, fun e he => let ⟨_, hr⟩ := hall e he; rosterEntry_spec hr⟩

/-- The slot laws, the roster law and the law of absence together. -/
def State.Laws (s : State) : Prop := s.EgressLaw ∧ s.LossLaw ∧ s.RosterLaw ∧ s.AbsenceLaw

theorem KeepsLaws.laws {s t : State} (h : KeepsLaws s t) : s.Laws → t.Laws := fun ⟨he, hl, hr, ha⟩ =>
  ⟨h.egress he, h.loss hl, h.roster hr, h.absence ha⟩

/-- R161: where every EGRESS slot is empty, the EGRESS sample brings the slots in step with the input. -/
theorem State.egressSample_laws {s : State} (he : ∀ c : Circuit, (s.circ c).egress = none) (hl : s.LossLaw)
    (hr : s.RosterLaw) (ha : s.AbsenceLaw) : s.egressSample.Laws := by
  unfold State.egressSample
  split
  · next hasserted =>
    have hegress := s.egressWrite_law hasserted fun c _ => he c
    have keeps : KeepsLaws s s.egressWrite :=
      .of_slots rfl rfl rfl (s.safetyWrite_claims _ _ _) (fun _ => hegress) (·.safetyWrite_egress _ _)
    exact ⟨hegress, keeps.loss hl, keeps.roster hr, keeps.absence ha⟩
  · next hreleased => exact ⟨fun c => by simp [he c, hreleased], hl, hr, ha⟩

@[simp] theorem State.egressSample_part (s : State) : s.egressSample.part = s.part := by
  unfold State.egressSample
  split <;> rfl

/-- The tables in place in a part with no claims: every law but that of the EGRESS slots holds. -/
theorem State.install_laws {s : State} (hfresh : s.enterLoading = s) {T : Tables}
    (hT : T.roster.Pairwise (fun a b => a.station < b.station) ∧ T.roster.length ≤ Config.rosterMax ∧
      ∀ e ∈ T.roster, 1 ≤ e.station ∧ e.station ≤ Config.stationMax ∧ 1 ≤ e.controls ∧ e.controls ≤ 32 ∧ e.live = .unknown ∧
        e.missed = 0 ∧ e.slot = none) (part : Part) (valid : Bool) (x : Contacts) :
    (∀ c : Circuit, (s.install part T valid x).circ c = .empty) ∧ (s.install part T valid x).LossLaw ∧
      (s.install part T valid x).RosterLaw ∧ (s.install part T valid x).AbsenceLaw := by
  have hempty : ∀ c : Circuit, (s.install part T valid x).circ c = .empty := fun c => by
    show s.circ c = .empty
    rw [← hfresh]; exact State.circ_enterLoading s c
  refine ⟨hempty, fun _ c => by rw [hempty]; rfl, ⟨hT.1, hT.2.1, fun e he => ?_⟩, fun n _ c cl hcl => ?_⟩
  · obtain ⟨h1, h2, h3, h4, -, h6, -⟩ := hT.2.2 e he
    exact ⟨h1, h2, h3, h4, by rw [h6]; decide, fun h0 => absurd h0 (by rw [h6]; decide)⟩
  · rw [hempty] at hcl; cases hcl

@[simp] theorem State.view_powerOnRecall (s : State) :
    s.powerOnRecall.lawView = s.lawView ∧ s.powerOnRecall.claimLists = s.claimLists := by
  unfold State.powerOnRecall
  split
  · exact State.view_request s rfl
  · exact ⟨rfl, rfl⟩

/-- The steps of the entry to RUNNING after the sample. -/
theorem State.view_afterSample (s : State) :
    (s.powerOnRecall.startLossTimer.visitFrom 0).lawView = s.lawView ∧
      (s.powerOnRecall.startLossTimer.visitFrom 0).claimLists = s.claimLists := by simp

theorem State.scheduleAndSample_laws {s : State} (b : Bool) (he : ∀ c : Circuit, (s.circ c).egress = none) (hl : s.LossLaw)
    (hr : s.RosterLaw) (ha : s.AbsenceLaw) : (s.scheduleAndSample b).Laws ∧ (s.scheduleAndSample b).part = s.part := by
  cases b with
  | false =>
    have sampled := State.egressSample_laws he hl hr ha
    exact ⟨(KeepsLaws.of_view (s.egressSample.view_withLoop _)).laws sampled, s.egressSample_part⟩
  | true =>
    have hview : s.startSchedule.transmitStart.lawView = s.lawView ∧ s.startSchedule.transmitStart.claimLists = s.claimLists :=
      s.startSchedule.view_transmitStart
    have keeps : KeepsLaws s s.startSchedule.transmitStart := .of_view hview
    refine ⟨State.egressSample_laws (fun c => ?_) (keeps.loss hl) (keeps.roster hr) (keeps.absence ha),
      (State.egressSample_part _).trans keeps.part⟩
    exact (congrFun (congrArg LawView.egress hview.1) c).trans (he c)

/-- R173 to R175: the end of loading leads out of LOADING to a state that meets the laws. -/
theorem State.loadingEnd_laws {s : State} (x : Contacts) (hp : s.powered = true ∧ s.part = .loading)
    (hfresh : s.enterLoading = s) : (s.loadingEnd x).Laws ∧ (s.loadingEnd x).part ≠ .loading := by
  unfold State.loadingEnd
  rw [if_pos hp]
  split
  · next T hT =>
    obtain ⟨he, hl, hr, ha⟩ := State.install_laws hfresh (loadImage_roster_good hT) .running true x
    obtain ⟨hlaws, hpart⟩ :=
      State.scheduleAndSample_laws x.builtFirst (fun c => congrArg ClaimCircuit.egress (he c)) hl hr ha
    have keeps := KeepsLaws.of_view (State.view_afterSample ((s.install .running T true x).scheduleAndSample x.builtFirst))
    have hrunning : (s.enterRunning T x).part = .running := keeps.part.trans hpart
    exact ⟨keeps.laws hlaws, by rw [hrunning]; decide⟩
  · obtain ⟨he, hl, hr, ha⟩ := State.install_laws hfresh (T := Tables.default)
      ⟨.nil, Nat.zero_le _, fun e he => absurd he List.not_mem_nil⟩ .unconfigured false x
    have hlaws := State.egressSample_laws (s := (s.install .unconfigured Tables.default false x).report .storeFault)
      (fun c => congrArg ClaimCircuit.egress (he c)) hl hr ha
    have keeps := KeepsLaws.of_view
      (State.view_visitFrom ((s.install .unconfigured Tables.default false x).report .storeFault).egressSample 0)
    have hpart : (s.enterUnconfigured x).part = .unconfigured := keeps.part.trans (State.egressSample_part _)
    exact ⟨keeps.laws hlaws, by rw [hpart]; decide⟩

/-! ### Every step -/

/-- A step enters LOADING afresh, or leaves it, or keeps the part state and the laws. -/
theorem exec_cases (c : Instr) {s : State} (hfresh : s.FreshInLoading) :
    ∃ t, exec c s = .next t ∧ ((∃ u : State, t = u.enterLoading) ∨ (t.Laws ∧ t.part ≠ .loading) ∨
      (KeepsLaws s t ∧ (s.part = .loading → t = s))) := by
  have unchanged : KeepsLaws s s ∧ (s.part = .loading → s = s) := ⟨.refl s, fun _ => rfl⟩
  by_cases hon : c = .powerOn
  · subst hon
    exact ⟨_, rfl, .inl ⟨_, rfl⟩⟩
  by_cases hoff : ∃ done rest, c = .powerLoss done rest
  · obtain ⟨done, rest, rfl⟩ := hoff
    refine ⟨_, rfl, ?_⟩
    unfold State.powerLoss
    split
    · exact .inl ⟨_, rfl⟩
    · exact .inr (.inr unchanged)
  by_cases hend : ∃ x y z, c = .loadingEnd x y z
  · obtain ⟨x, y, z, rfl⟩ := hend
    refine ⟨_, rfl, ?_⟩
    by_cases hp : s.powered = true ∧ s.part = .loading
    · exact .inr (.inl (State.loadingEnd_laws _ hp (hfresh hp.2)))
    · unfold State.loadingEnd
      rw [if_neg hp]
      exact .inr (.inr unchanged)
  push Not at hoff hend
  by_cases hp : s.part = .loading
  · exact ⟨s, exec_loading hp (hfresh hp) hon hoff hend, .inr (.inr unchanged)⟩
  by_cases hsent : c = .pollSent
  · subst hsent
    refine ⟨_, rfl, ?_⟩
    rcases s.pollSent_cases with h | h
    · exact .inl ⟨s, h⟩
    · exact .inr (.inr ⟨h, fun h => absurd h hp⟩)
  · obtain ⟨t, ht, keeps⟩ := exec_keepsLaws s hon hoff hend hsent
    exact ⟨t, ht, .inr (.inr ⟨keeps, fun h => absurd h hp⟩)⟩

/-- `exec_cases` for a step: an empty queue leaves the state, and the rest of the queue is no part of what the laws read. -/
theorem step_cases {s t : State} (hfresh : s.FreshInLoading) (h : step s = .next t) :
    t.FreshInLoading ∧ (t.Laws ∨ KeepsLaws s t) := by
  unfold step at h
  split at h
  · cases h
    exact ⟨hfresh, .inr (.refl s)⟩
  · next c rest _ =>
    have hfresh' := hfresh.withPending rest
    have keeps : KeepsLaws s (s.withPending rest) := .of_view (s.view_withPending rest)
    obtain ⟨u, hu, hcases⟩ := exec_cases c hfresh'
    obtain rfl : u = t := Host.Outcome.next.inj (hu.symm.trans h)
    rcases hcases with ⟨v, rfl⟩ | ⟨hlaws, hpart⟩ | ⟨hkeeps, hsame⟩
    · exact ⟨v.enterLoading_fresh, .inl v.enterLoading_laws⟩
    · exact ⟨fun hp => absurd hp hpart, .inl hlaws⟩
    · refine ⟨fun hp => ?_, .inr (keeps.trans hkeeps)⟩
      have hs : (s.withPending rest).part = .loading := hkeeps.part.symm.trans hp
      rw [hsame hs]; exact hfresh' hs

/-- Settles O3: a step enters LOADING through the values after power-on alone, and no other command changes a fresh part there. -/
theorem stepKeepsLoadingFresh : Obligations.StepKeepsLoadingFresh :=
  fun _ _ hfresh h => (step_cases hfresh h).1

/-- Settles O7: every command keeps the slots in step, or leads to a state where they are empty or just sampled. -/
theorem stepKeepsTheSlotLaws : Obligations.StepKeepsTheSlotLaws := fun _ _ hfresh h => by
  rcases (step_cases hfresh h).2 with ⟨he, hl, -⟩ | keeps
  · exact ⟨fun _ => he, fun _ => hl⟩
  · exact ⟨keeps.egress, keeps.loss⟩

/-- Settles O8: every command keeps the roster and its absence requests in step, or begins them anew. -/
theorem stepKeepsTheRosterLaws : Obligations.StepKeepsTheRosterLaws := fun _ _ hfresh h => by
  rcases (step_cases hfresh h).2 with ⟨-, -, hr, ha⟩ | keeps
  · exact ⟨fun _ => hr, fun _ => ha⟩
  · exact ⟨keeps.roster, keeps.absence⟩

end Sys2Proof.Machine
end

section
/-! PROOFS. The safety writes (O26), the end of a line loss, and the grants that remove claims (O33). -/

namespace Sys2Proof.Machine

/-! ### Merges with a safety slot -/

theorem mergeCircuit_of_egress (m : Mode) (r : MergeRule) {t : ClaimCircuit} {v : Nat} (h : t.egress = some v) :
    mergeCircuit m r t = (max v (t.loss.getD 0), .safety) := by
  unfold mergeCircuit
  rw [h]
  cases t.loss <;> simp

theorem mergeCircuit_of_loss (m : Mode) (r : MergeRule) {t : ClaimCircuit} {v : Nat} (h : t.loss = some v) :
    mergeCircuit m r t = (max v (t.egress.getD 0), .safety) := by
  unfold mergeCircuit
  rw [h]
  cases t.egress <;> simp [Nat.max_comm]

/-- What a write of a level into a slot makes of a circuit: SAFETY wins, with the higher of the two slots. -/
theorem State.safetyWrite_level (s : State) (k : Slot) {w : Circuit → Option (Option Nat)} (fade : Nat) {c : Circuit}
    {content : Option Nat} {level : Nat} (h : w c = some content)
    (hm : mergeCircuit s.cues.mode (s.eng c).attr.mergeRule ((s.circ c).setSlot k content) = (level, .safety)) :
    (s.safetyWrite k w fade).circ c = { (s.circ c).setSlot k content with target := level, winner := .safety } ∧
    (s.safetyWrite k w fade).eng c =
      if (s.circ c).target = level ∧ (s.circ c).winner = .safety then s.eng c
      else (s.eng c).published s.engine.masters { target := level, winner := .safety, fade := fade } := by
  simpa only [Prod.mk.injEq] using s.safetyWrite_named k fade h hm

/-! ### The events (R162 to R164) -/

theorem State.egressAssertion_held {s : State} (h : s.claims.egressAsserted = true) : s.egressAssertion = s := by
  simp [State.egressAssertion, h]

theorem State.active_of_ne {s : State} (h : s.part ≠ .loading) : s.active = true := by
  simpa [State.active] using h

/-- R162: an assertion of a released input. -/
theorem State.egressAssertion_released {s : State} (hp : s.part ≠ .loading) (h : s.claims.egressAsserted = false) :
    s.egressAssertion = (s.setEgress true).egressWrite := by
  simp [State.egressAssertion, State.active_of_ne hp, h]

theorem State.egressWrite_unflagged {s : State} {c : Circuit} (h : (s.eng c).attr.egress = false) :
    s.egressWrite.circ c = s.circ c ∧ s.egressWrite.eng c = s.eng c :=
  s.safetyWrite_unnamed .egress 0 (by simp [State.egressLevels, h])

theorem State.egressWrite_flagged {s : State} {c : Circuit} (h : (s.eng c).attr.egress = true) :
    s.egressWrite.circ c =
      { s.circ c with
        egress := some (s.eng c).attr.egressLevel
        target := max (s.eng c).attr.egressLevel ((s.circ c).loss.getD 0)
        winner := .safety } ∧
    s.egressWrite.eng c =
      if (s.circ c).target = max (s.eng c).attr.egressLevel ((s.circ c).loss.getD 0) ∧ (s.circ c).winner = .safety then s.eng c
      else (s.eng c).published s.engine.masters
        { target := max (s.eng c).attr.egressLevel ((s.circ c).loss.getD 0), winner := .safety, fade := 0 } :=
  s.safetyWrite_level .egress 0 (content := some (s.eng c).attr.egressLevel) (by simp [State.egressLevels, h])
    (mergeCircuit_of_egress _ _ rfl)

/-- R163: a release of an asserted input. -/
theorem State.egressRelease_asserted {s : State} (hp : s.part ≠ .loading) (h : s.claims.egressAsserted = true) :
    s.egressRelease =
      (s.setEgress false).safetyWrite .egress (s.emptyHeldSlots .egress) s.mgmt.settings.recoveryFade := by
  simp [State.egressRelease, State.active_of_ne hp, h]

theorem State.emptyHeldSlots_none {s : State} {k : Slot} {c : Circuit} (h : (s.circ c).slot k = none) :
    s.emptyHeldSlots k c = none := by simp [State.emptyHeldSlots, h]

theorem State.emptyHeldSlots_some {s : State} {k : Slot} {c : Circuit} (h : ((s.circ c).slot k).isSome = true) :
    s.emptyHeldSlots k c = some none := by simp [State.emptyHeldSlots, h]

/-- R164: what a declaration writes for a circuit that is not of action IGNORE. -/
theorem State.lossLevels_of_ne {s : State} {c : Circuit} (h : (s.eng c).attr.lossAction ≠ .ignore) :
    s.lossLevels c =
      some (some (if (s.eng c).attr.lossAction = .hold then (s.circ c).target else (s.eng c).attr.lossLevel)) := by
  unfold State.lossLevels
  cases ha : (s.eng c).attr.lossAction <;> simp_all

/-- Settles O26: each event is one safety write, which is followed circuit by circuit. -/
theorem safetyWritesSetTheirSlots : Obligations.SafetyWritesSetTheirSlots := by
  refine ⟨fun s hp => ⟨fun h => congrArg Host.Outcome.next (State.egressAssertion_held h), fun h => ?_⟩,
    fun s hp h => ?_, fun s => ⟨fun h => ?_, fun d h => ?_⟩⟩
  · refine ⟨_, congrArg Host.Outcome.next (State.egressAssertion_released hp h), rfl, fun c => ⟨fun hf => ?_, fun hf => ?_⟩⟩
    · exact State.egressWrite_unflagged (s := s.setEgress true) hf
    · exact State.egressWrite_flagged (s := s.setEgress true) hf
  · refine ⟨_, congrArg Host.Outcome.next (State.egressRelease_asserted hp h), rfl, fun c => ⟨fun hn => ?_, fun hs => ?_⟩⟩
    · exact (s.setEgress false).safetyWrite_unnamed .egress _ (State.emptyHeldSlots_none (k := .egress) hn)
    · refine (s.setEgress false).safetyWrite_named .egress _ (State.emptyHeldSlots_some (k := .egress) hs) ?_
      show mergeCircuit s.cues.mode (s.eng c).attr.mergeRule { s.circ c with egress := none } = _
      unfold mergeCircuit
      cases (s.circ c).loss <;> rfl
  · show Host.Outcome.next s.lineLossTimerExpiry = _
    unfold State.lineLossTimerExpiry
    rw [h]
  · have hexp : s.lineLossTimerExpiry = s.declareLost := by
      unfold State.lineLossTimerExpiry
      rw [h]
    refine ⟨_, congrArg Host.Outcome.next hexp, rfl, rfl, fun c => ⟨fun hi => ?_, fun hi => ?_⟩⟩
    · exact State.safetyWrite_unnamed _ .loss 0 (by simp [State.lossLevels, hi])
    · exact State.safetyWrite_level
        (State.report .lineLost { s with line := { s.line with lossDeclared := true, lossTimer := none } }) .loss 0
        (State.lossLevels_of_ne hi) (mergeCircuit_of_loss _ _ rfl)

/-! ### The end of a line loss (R166) -/

/-- R166: LINE_OK on the circuits. -/
theorem State.declareOk_ends (s : State) : LossEnded s s.declareOk := by
  refine fun c => ⟨fun hn => ?_, fun hs => ?_⟩
  · exact State.safetyWrite_unnamed _ .loss _ (State.emptyHeldSlots_none (k := .loss) hn)
  · refine State.safetyWrite_named { s with line := { s.line with lossDeclared := false } } .loss _
      (State.emptyHeldSlots_some (k := .loss) hs) ?_
    show mergeCircuit s.cues.mode (s.eng c).attr.mergeRule { s.circ c with loss := none } = _
    unfold mergeCircuit
    cases (s.circ c).egress <;> rfl

/-- What LINE_OK does is read from the circuits, the masters, the mode and the recovery fade. -/
theorem LossEnded.congr {s s' t t' : State} (h : LossEnded s t) (hc : ∀ c, s'.circ c = s.circ c) (he : ∀ c, s'.eng c = s.eng c)
    (hm : s'.engine.masters = s.engine.masters) (hmode : s'.cues.mode = s.cues.mode)
    (hfade : s'.mgmt.settings.recoveryFade = s.mgmt.settings.recoveryFade) (hc' : ∀ c, t'.circ c = t.circ c)
    (he' : ∀ c, t'.eng c = t.eng c) : LossEnded s' t' := fun c => by
  simp only [hc, he, hm, hmode, hfade, hc', he']
  exact h c

/-! ### Removals in a set that closes (R58, R64) -/

/-- R58, R64: a removal in an empty set, and the close of the set, on every circuit. -/
theorem RemovedAndClosed.of_closeSet {s u : State} {gone : Circuit → Claim → Bool} (hentry : ∀ c, (s.circ c).entry = none)
    (hcirc : ∀ c, u.circ c = (s.circ c).without (gone c)) (hengine : u.engine = s.engine) (hcues : u.cues = s.cues)
    (hpool : u.claims.poolFree = s.claims.poolFree + s.removedCount gone) : RemovedAndClosed s u.closeSet gone := by
  have heng : ∀ c, u.eng c = s.eng c := fun c => by unfold State.eng; rw [hengine]
  refine ⟨u.closeSet_openSet, u.closeSet_poolFree.trans hpool, fun c => ?_⟩
  cases hlast : ((s.circ c).claims.filter (gone c)).getLast? with
  | none =>
    have hsame : u.circ c = s.circ c := by rw [hcirc, ClaimCircuit.without, hlast]
    have hclosing : u.closing c = none := by
      unfold State.closing
      rw [hsame, hentry]
    constructor
    · rw [State.circ_closeSet, hclosing, hsame]
      show { s.circ c with entry := none } = s.circ c
      rw [← hentry c]
    · rw [State.eng_closeSet, hclosing, heng]
  | some last =>
    have hnew : u.circ c = { s.circ c with claims := (s.circ c).claims.filter (fun cl => !gone c cl), entry := some last.fade } := by
      rw [hcirc, ClaimCircuit.without, hlast]
    have hmerge : u.mergeOf c = mergeCircuit s.cues.mode (s.eng c).attr.mergeRule
        { s.circ c with claims := (s.circ c).claims.filter fun cl => !gone c cl } := by
      unfold State.mergeOf
      rw [hnew, heng, hcues]; rfl
    have hclosing : u.closing c = u.remerge c last.fade := by
      unfold State.closing
      rw [hnew]
    rw [Option.map_some]
    unfold CircuitClosed
    dsimp only
    rw [State.closeSet_cues, hcues, State.circ_closeSet, State.eng_closeSet, hclosing, hengine]
    unfold State.remerge
    rw [hmerge, hnew, heng]
    generalize mergeCircuit _ _ _ = merged
    by_cases heq : merged = ((s.circ c).target, (s.circ c).winner)
    · subst heq
      simp [ClaimCircuit.held]
    · rw [if_neg heq, if_neg fun e => heq e.symm]
      exact ⟨rfl, rfl⟩

/-- R58: a removal from the taken head of the waiting order. -/
theorem State.removeWhere_closed {s : State} {r : Request} {rest : List Request} (h : s.Grants r rest)
    (gone : Circuit → Claim → Bool) : RemovedAndClosed s (s.takeHead.removeWhere gone).closeSet gone :=
  .of_closeSet h.1.2.2 (fun c => s.takeHead.circ_removeWhere gone c) rfl rfl rfl

theorem State.takeHead_order {s : State} {r : Request} {rest : List Request} (h : s.Grants r rest) :
    s.takeHead.claims.order = rest := by
  obtain ⟨-, ho⟩ := h
  unfold State.takeHead
  rw [ho]; rfl

/-- Settles O33: a granted removal leaves its set closed on every circuit, and the rest as it was. -/
theorem removalGrantsRemoveTheirClaims : Obligations.RemovalGrantsRemoveTheirClaims := by
  refine ⟨fun s n e rest h he => ?_, fun s rest => ⟨fun n h => ?_, fun h => ?_⟩⟩
  · have hgrant : s.absenceGrant = s.takeHead.grantAbsence n := by
      unfold State.absenceGrant
      rw [State.grantable_of_grants h]
    have hentry : ∀ k, (s.takeHead.grantAbsence n).entryOf k =
        (s.entryOf k).map fun x => if x.station = n then { x with live := .absent } else x :=
      fun k => State.entryOf_modifyEntry s n k (fun x => { x with live := .absent }) fun _ => rfl
    refine ⟨_, congrArg Host.Outcome.next hgrant, ?_, fun k hk => ?_, ?_, ?_, rfl, rfl, rfl, rfl⟩
    · rw [hentry, he]
      simp [State.station_of_entryOf he]
    · rw [hentry]
      cases hx : s.entryOf k with
      | none => rfl
      | some x => simp [State.station_of_entryOf hx, hk]
    · exact (State.closeSet_order _).trans (State.takeHead_order h)
    · refine .of_closeSet h.1.2.2 (fun c => ?_) rfl rfl rfl
      exact State.circ_removeWhere (s.takeHead.modifyEntry n fun x => { x with live := .absent }) _ c
  · have hgrant : s.stationRemovalGrant = (s.takeHead.removeWhere fun _ cl => cl.ofStation n).closeSet := by
      unfold State.stationRemovalGrant
      rw [State.grantable_of_grants h]
    exact ⟨_, congrArg Host.Outcome.next hgrant, (State.closeSet_order _).trans (State.takeHead_order h),
      State.removeWhere_closed h _, rfl, rfl, rfl, rfl, rfl⟩
  · have hgrant : s.expiryGrant = (s.takeHead.removeWhere fun _ cl => cl.expired).closeSet := by
      unfold State.expiryGrant
      rw [State.grantable_of_grants h]
    exact ⟨_, congrArg Host.Outcome.next hgrant, (State.closeSet_order _).trans (State.takeHead_order h),
      State.removeWhere_closed h _, rfl, rfl, rfl, rfl, rfl⟩

end Sys2Proof.Machine
end

section
/-! PROOFS. Requests and answers as bytes (O17), the records that they carry (O18), and the end of a POLL (O21). -/

namespace Sys2Proof.Machine

/-! ### Quantities as bytes (R194) -/

theorem oneByte_iff (n : Nat) : oneByte n = true ↔ n < 256 := by simp [oneByte]

theorem twoBytes_iff (n : Nat) : twoBytes n = true ↔ n < 65536 := by simp [twoBytes]

theorem toNat_byteOf {n : Nat} (h : n < 256) : (byteOf n).toNat = n := by
  unfold byteOf
  rw [BitVec.toNat_ofNat]
  exact Nat.mod_eq_of_lt h

theorem ofBe16_be16 {n : Nat} (h : n < 65536) : ofBe16 (BitVec.ofNat 8 (n / 256)) (BitVec.ofNat 8 n) = n := by
  unfold ofBe16
  rw [BitVec.toNat_ofNat, BitVec.toNat_ofNat]
  omega

theorem wordOf_wordBytes (w : Word) : wordOf (BitVec.ofNat 8 (w.toNat / 256)) (w.setWidth 8) = w := by
  unfold wordOf
  rw [← BitVec.ofNat_toNat, ofBe16_be16 w.isLt]
  simp

@[simp] theorem length_be16 (n : Nat) : (be16 n).length = 2 := rfl

@[simp] theorem length_wordBytes (w : Word) : (wordBytes w).length = 2 := rfl

theorem windowFieldsOf_windowBytes {f : WindowFields} (h : f.fits = true) : windowFieldsOf (windowBytes f) = some f := by
  simp only [WindowFields.fits, Bool.and_eq_true, oneByte_iff, twoBytes_iff] at h
  simp [windowBytes, be16, windowFieldsOf, toNat_byteOf, ofBe16_be16, h]

theorem circuitFieldsOf_circuitBytes {f : CircuitFields} (h : f.fits = true) : circuitFieldsOf (circuitBytes f) = some f := by
  simp only [CircuitFields.fits, Bool.and_eq_true, oneByte_iff, twoBytes_iff] at h
  simp [circuitBytes, be16, circuitFieldsOf, toNat_byteOf, ofBe16_be16, h]

theorem settingsFieldsOf_settingsBytes {f : SettingsFields} (h : f.fits = true) :
    settingsFieldsOf (settingsBytes f) = some f := by
  simp only [SettingsFields.fits, Bool.and_eq_true, oneByte_iff, twoBytes_iff] at h
  simp [settingsBytes, be16, settingsFieldsOf, toNat_byteOf, ofBe16_be16, h]

theorem entryArgsGood_kind {kind arg position : Nat} (h : entryArgsGood kind arg position = true) : kind < 10 := by
  unfold entryArgsGood at h
  by_contra hk
  split at h
  case h_11 => cases h
  all_goals omega

/-- Table 12-1: the payload of a READ_ENTRY reads back as its kind, argument and position. -/
theorem askedOf_entryPayload (sender tag : Nat) {kind arg position : Nat} (h : entryArgsGood kind arg position = true) :
    askedOf sender tag 2 (entryPayload kind arg position) = .command (.readEntry sender tag kind arg position) := by
  have hk := entryArgsGood_kind h
  interval_cases kind <;>
    simp only [entryArgsGood, Bool.and_eq_true, beq_iff_eq, oneByte_iff, twoBytes_iff] at h <;>
    simp [askedOf, entryPayload, readEntryArgs, lengthOr, be16, toNat_byteOf, ofBe16_be16, h]

/-! ### Requests as records (Table 12-1) -/

/-- What a record of a request must be for its request to be read back from it. -/
structure RequestForm.Spells (f : RequestForm) (c : Instr) : Prop where
  asked : askedOf f.sender f.tag f.code f.payload = .command c
  payload : f.payload.length ≤ 239
  code : f.code < 256
  tag : f.tag < 256

theorem requestForm_spells {c : Instr} {f : RequestForm} (hc : c.wellFormed = true) (hf : requestForm c = some f) :
    f.Spells c := by
  cases c with
  | readEntry sender tag kind arg position =>
    cases hf
    simp only [Instr.wellFormed, senderGood, Bool.and_eq_true, oneByte_iff] at hc
    have hk := entryArgsGood_kind hc.2
    refine ⟨askedOf_entryPayload _ _ hc.2, ?_, by simp, hc.1.2⟩
    unfold entryPayload
    dsimp only
    split <;> simp
  | writeWindow sender tag index fields =>
    cases hf
    simp only [Instr.wellFormed, senderGood, Bool.and_eq_true, oneByte_iff] at hc
    obtain ⟨⟨⟨_, htag⟩, hindex⟩, hfits⟩ := hc
    exact ⟨by simp [askedOf, lengthOr, windowFieldsOf_windowBytes hfits, toNat_byteOf hindex],
      by simp [windowBytes], by simp, htag⟩
  | writeCircuit sender tag circuit fields =>
    cases hf
    simp only [Instr.wellFormed, senderGood, Bool.and_eq_true, oneByte_iff, twoBytes_iff] at hc
    obtain ⟨⟨⟨_, htag⟩, hcircuit⟩, hfits⟩ := hc
    exact ⟨by simp [askedOf, lengthOr, be16, circuitFieldsOf_circuitBytes hfits, ofBe16_be16 hcircuit],
      by simp [circuitBytes], by simp, htag⟩
  | writeSettings sender tag fields =>
    cases hf
    simp only [Instr.wellFormed, senderGood, Bool.and_eq_true, oneByte_iff] at hc
    exact ⟨by simp [askedOf, lengthOr, settingsFieldsOf_settingsBytes hc.2], by simp [settingsBytes], by simp, hc.1.2⟩
  | clearFlags | setMask | verify | readStatus | readUnrouted | restart | save | enrol | delete | setWindow | addGroupMember
  | removeGroupMember | setLevel | releaseLayer | setSceneEntry | clearSceneEntry | setSceneFade | captureScene | setMode
  | fireCue | clearPending | setMaster =>
    cases hf
    simp only [Instr.wellFormed, senderGood, Bool.and_eq_true, oneByte_iff, twoBytes_iff] at hc
    refine ⟨?_, by simp, by simp, by simp [hc]⟩
    simp [askedOf, noPayload, wordBytes, be16, wordOf_wordBytes, toNat_byteOf, ofBe16_be16, hc]
  | _ => cases hf

/-- R13, R15: a well-formed request names its sender in one byte. -/
theorem requestForm_sender {c : Instr} {f : RequestForm} (hc : c.wellFormed = true) (hf : requestForm c = some f) :
    f.sender < 256 := by
  have good : ∀ {sender tag : Nat}, senderGood sender tag = true → sender < 256 := fun h => by
    simp only [senderGood, Bool.and_eq_true, decide_eq_true_eq] at h
    exact lt_of_le_of_lt h.1.2 (by decide)
  have front : ∀ {a b : Bool}, (a && b) = true → a = true := fun h => (Bool.and_eq_true_iff.mp h).1
  cases c with
  | readStatus | readUnrouted | restart | save | clearFlags | setMask =>
    cases hf; exact good hc
  | readEntry | writeSettings | verify | delete | captureScene | fireCue | clearPending =>
    cases hf; exact good (front hc)
  | writeWindow | setWindow | addGroupMember | removeGroupMember | writeCircuit | clearSceneEntry | setSceneFade | setMode
  | setMaster =>
    cases hf; exact good (front (front hc))
  | enrol | releaseLayer | setSceneEntry =>
    cases hf; exact good (front (front (front hc)))
  | setLevel =>
    cases hf; exact good (front (front (front (front hc))))
  | _ => cases hf

theorem isWrite_requestForm {c : Instr} {f : RequestForm} (hf : requestForm c = some f) :
    isWrite f.code = false ↔ ((∃ a b, c = .readStatus a b) ∨ (∃ a b k x y, c = .readEntry a b k x y) ∨
      ∃ a b, c = .readUnrouted a b) := by
  cases c <;> cases hf <;> simp [isWrite]

/-! ### Answers as frames (Table 12-3) -/

/-- A frame of an answer, byte by byte. -/
theorem answerFrame_eq (n content : Nat) (body : List Byte) :
    ∃ crc : Word, crc = crc16 ([0x02#8, byteOf n, byteOf content, byteOf body.length] ++ body) ∧
      answerFrame n content body = 0x02#8 :: byteOf n :: byteOf content :: byteOf body.length :: (body ++ wordBytes crc) :=
  ⟨_, rfl, rfl⟩

/-- R6: a whole frame is read as its content. -/
theorem answerOf_answerFrame {n : Nat} (content : Nat) {body : List Byte} (hn : n < 256) (hb : body.length < 256) :
    answerOf n (answerFrame n content body) = contentOf (byteOf content) body := by
  obtain ⟨crc, hcrc, hframe⟩ := answerFrame_eq n content body
  rw [hframe]
  unfold answerOf
  dsimp only
  rw [toNat_byteOf hb, List.take_left, List.drop_left, ← hcrc]
  exact if_pos ⟨rfl, toNat_byteOf hn, by simp, by simp⟩

/-- R6: a frame that is cut short is bad. -/
theorem answerOf_take {n : Nat} (content : Nat) {body : List Byte} (hb : body.length < 256) {k : Nat}
    (hk : k < (answerFrame n content body).length) : answerOf n ((answerFrame n content body).take k) = none := by
  obtain ⟨crc, -, hframe⟩ := answerFrame_eq n content body
  rw [hframe] at hk ⊢
  match k, hk with
  | 0, _ | 1, _ | 2, _ | 3, _ => rfl
  | j + 4, hk =>
    have hj : j < body.length + 2 := by simp at hk; omega
    simp only [List.take_succ_cons]
    unfold answerOf
    dsimp only
    rw [toNat_byteOf hb]
    refine if_neg fun h => ?_
    have := h.2.2.1
    rw [List.length_take] at this
    omega

/-- R6: a frame of one number is bad as an answer of another. -/
theorem answerOf_other {n m : Nat} (content : Nat) (body : List Byte) (hn : n < 256) (hm : m ≠ n) :
    answerOf m (answerFrame n content body) = none := by
  obtain ⟨crc, -, hframe⟩ := answerFrame_eq n content body
  rw [hframe]
  unfold answerOf
  dsimp only
  exact if_neg fun h => hm (h.2.1.symm.trans (toNat_byteOf hn))

/-- R195: event records read back as they were written. -/
theorem rawEvents_bytes : ∀ {l : List RawEvent}, (∀ r ∈ l, r.control < 256 ∧ r.kind < 256 ∧ r.value < 65536) →
    rawEvents (l.flatMap RawEvent.bytes) = some l
  | [], _ => rfl
  | r :: rest, h => by
    obtain ⟨h1, h2, h3⟩ := h r List.mem_cons_self
    have ih := rawEvents_bytes fun x hx => h x (List.mem_cons_of_mem r hx)
    simp [RawEvent.bytes, be16, rawEvents, ih, toNat_byteOf h1, toNat_byteOf h2, ofBe16_be16 h3]

theorem length_eventBytes (l : List RawEvent) : (l.flatMap RawEvent.bytes).length = 4 * l.length := by
  induction l with
  | nil => rfl
  | cons r rest ih =>
    rw [List.flatMap_cons, List.length_append, ih, List.length_cons]
    simp [RawEvent.bytes]
    omega

/-- Settles O17: each field is read back from the bytes that carry it, and a frame from its header, its body and its CRC. -/
theorem wireFormsReadAsWritten : Obligations.WireFormsReadAsWritten := by
  refine ⟨fun c f hc hf => ?_, fun n l hn hl hr => ?_⟩
  · have spells := requestForm_spells hc hf
    exact ⟨spells.asked, spells.payload, isWrite_requestForm hf⟩
  · have hlen := length_eventBytes l
    refine ⟨?_, fun k hk => answerOf_take 0 (by omega) hk, fun m hm => answerOf_other 0 _ hn hm⟩
    rw [answerOf_answerFrame 0 hn (by omega)]
    unfold contentOf
    rw [toNat_byteOf (n := 0) (by decide), if_pos (by omega), rawEvents_bytes hr]; rfl

/-! ### Records and their requests (R182, R183) -/

/-- A checked record whose CRC is good. -/
def RequestForm.record (f : RequestForm) : Record where
  code := f.code
  tag := f.tag
  checked := true
  payload := f.payload
  crcGood := true

theorem recordOf_checkedRecord {f : RequestForm} {c : Instr} (h : f.Spells c) :
    recordOf (checkedRecord f.code f.tag f.payload) = some f.record := by
  have hp := h.payload
  have hlen : (byteOf f.payload.length).toNat = f.payload.length := toNat_byteOf (by omega)
  unfold checkedRecord withCrc
  rw [List.append_assoc]
  simp only [List.cons_append, List.nil_append]
  unfold recordOf
  dsimp only
  rw [hlen, if_pos ⟨hp, by simp⟩, List.take_left, List.drop_left, toNat_byteOf h.code, toNat_byteOf h.tag]
  simp [RequestForm.record]

/-- R13: the frame of a station that carries a request as a checked record is read as that record. -/
theorem answerOf_checkedRecord {f : RequestForm} {c : Instr} (h : f.Spells c) {n : Nat} (hn : n < 256) :
    answerOf n (answerFrame n 1 (checkedRecord f.code f.tag f.payload)) = some (.management f.record) := by
  have hp := h.payload
  have hlen : (checkedRecord f.code f.tag f.payload).length = f.payload.length + 6 := by
    simp [checkedRecord, withCrc]
  rw [answerOf_answerFrame 1 hn (by omega)]
  unfold contentOf
  rw [toNat_byteOf (n := 1) (by decide), recordOf_checkedRecord h]; rfl

/-- R183: a good record of a request does what the request does. -/
theorem State.handRecord_of_request {c : Instr} {f : RequestForm} (h : f.Spells c) (s : State) :
    s.handRecord f.sender f.record = s.takeRequest f.sender f.tag (State.serve c) := by
  have work : State.checkRecord f.sender f.record = State.serve c := by
    funext u
    unfold State.checkRecord
    show (match askedOf f.sender f.tag f.code f.payload with
      | .unknown => _ | .badLength => _ | .command c => _) = _
    rw [h.asked]; rfl
  unfold State.handRecord
  rw [work]; rfl

/-- R182: everything but the reply and the request in progress is compared without these. -/
theorem State.Answered.congr {sender tag : Nat} {result : Result} {payload : List Byte} {s u v t : State}
    (h : State.Answered sender tag result payload s u t) (hv : u.withoutReplies = v.withoutReplies) :
    State.Answered sender tag result payload s v t := by
  obtain ⟨h1, h2, h3, h4⟩ := h
  exact ⟨h1, h2, h3, h4.trans hv⟩

/-- R182, R184: a request that is taken and answered at once, after work that the reply and the requests in progress are no part of. -/
theorem State.answered_of_taken {s u v : State} {sender tag : Nat} {result : Result} {payload : List Byte}
    (ht : s.takes sender = true) (hr : u.mgmt.requests = (s.beginRequest sender tag).mgmt.requests)
    (hl : u.line = s.line) (hv : u.withoutReplies = v.withoutReplies) :
    State.Answered sender tag result payload s v (u.complete sender result payload) :=
  (State.answered_of_complete ht hr (by rw [hl]) (by rw [hl])).congr hv

theorem askedOf_unknown {sender tag code : Nat} (payload : List Byte) (h : 26 < code ∨ code = 0) :
    askedOf sender tag code payload = .unknown := by
  unfold askedOf
  split
  case h_27 => rfl
  all_goals omega

/-- Settles O18: the frame is read as the record and the record as the request; the checks come in their order. -/
theorem answersRunTheirRequests : Obligations.AnswersRunTheirRequests := by
  refine ⟨fun s t c f takes hphase hno hc hf hsender hexec => ?_, fun s sender r _ => ⟨fun h => ?_, fun h hchecked hbad => ?_,
    fun h hcrc hcode => ?_, fun h hcrc hasked => ?_, fun h hunchecked hwrite hasked => ?_⟩⟩
  · have spells := requestForm_spells hc hf
    have ht : s.takeRequest f.sender f.tag (State.serve c) = t :=
      Host.Outcome.next.inj ((exec_request hf s).symm.trans hexec)
    have hjudged : s.judgeFrame Config.serviceStation
        { bytes := answerFrame Config.serviceStation 1 (checkedRecord f.code f.tag f.payload), takes := takes } = t := by
      unfold State.judgeFrame State.judgeValid
      rw [answerOf_checkedRecord spells (by decide), hno]
      show s.handRecord Config.serviceStation f.record = t
      rw [← hsender, State.handRecord_of_request spells, ht]
    show Host.Outcome.next (s.answerReceived _) = _
    unfold State.answerReceived
    rw [hphase]
    dsimp only
    rw [hjudged]
  · exact State.takeRequest_of_not_taken h
  · unfold State.handRecord
    rw [State.takeRequest_of_taken h]
    unfold State.checkRecord
    rw [hchecked, hbad]
    exact State.answered_of_taken (u := (s.beginRequest sender r.tag).report .mgmtCheck) h rfl rfl rfl
  · unfold State.handRecord
    rw [State.takeRequest_of_taken h]
    unfold State.checkRecord
    rw [if_neg (by simpa using hcrc), askedOf_unknown _ hcode]
    exact State.answered_of_taken h rfl rfl rfl
  · unfold State.handRecord
    rw [State.takeRequest_of_taken h]
    unfold State.checkRecord
    rw [if_neg (by simpa using hcrc), hasked]
    exact State.answered_of_taken h rfl rfl rfl
  · obtain ⟨c, hc⟩ := hasked
    unfold State.handRecord
    rw [State.takeRequest_of_taken h]
    unfold State.checkRecord
    rw [if_neg (by simp [hunchecked]), hc]
    dsimp only
    rw [if_pos (by simp [hunchecked, hwrite])]
    exact State.answered_of_taken h rfl rfl rfl

/-! ### The end of a POLL (R5, R14, R191) -/

/-- Settles O21: POLL_SENT branches on the reply and the restart set; a frame outside an answer window is not looked at. -/
theorem pollsOpenTheAnswerWindow : Obligations.PollsOpenTheAnswerWindow := by
  refine ⟨fun s p hphase => ⟨fun hreply => ?_, fun hreply hset => ?_, fun hreply hset => ?_⟩,
    fun s frame => ⟨rfl, fun hphase => ⟨fun takes => ?_, ?_⟩⟩⟩
  · simp [exec, execPollSent, State.pollSent, hphase, State.carriesRestart, State.replySent, hreply, State.withLine]
  · simp [exec, execPollSent, State.pollSent, hphase, State.carriesRestart, State.replySent, hreply, hset, State.withLine,
      State.endRequest]
  · simp [exec, execPollSent, State.pollSent, hphase, State.carriesRestart, hreply, hset, State.enterLoading]
  · show Host.Outcome.next (s.answerReceived _) = _
    unfold State.answerReceived
    split
    · next n h => exact absurd h (hphase n)
    · rfl
    · rfl
  · show Host.Outcome.next s.answerTimeout = _
    unfold State.answerTimeout
    split
    · next n h => exact absurd h (hphase n)
    · rfl
    · rfl

end Sys2Proof.Machine
end

section
/-! PROOFS. The choice of the next visit (O24) and missing answers (O23). -/

namespace Sys2Proof.Machine

/-! ### What a visit leaves -/

/-- The choice of a visit touches reply slots, the place in the cycle and the one-shots alone. -/
theorem State.nextVisit_eq (s : State) :
    s.nextVisit =
      { s with
        line := { s.nextVisit.line with lossDeclared := s.line.lossDeclared, lossTimer := s.line.lossTimer }
        feedback := { s.feedback with shots := s.nextVisit.feedback.shots } } := by
  have from_ : ∀ (n : Nat) (u : State), u.visitFrom n =
      { u with
        line := { (u.visitFrom n).line with lossDeclared := u.line.lossDeclared, lossTimer := u.line.lossTimer }
        feedback := { u.feedback with shots := (u.visitFrom n).feedback.shots } } := fun n u => by
    unfold State.visitFrom
    split <;> rfl
  unfold State.nextVisit
  split
  · exact from_ _ s
  · split
    · rfl
    · exact from_ 0 (s.withLine { s.line with cycleCount := (s.line.cycleCount + 1) % 8 })
  · exact from_ 0 (s.withLine { s.line with cycleCount := (s.line.cycleCount + 1) % 8 })

@[simp] theorem State.nextVisit_part (s : State) : s.nextVisit.part = s.part := by rw [State.nextVisit_eq]
@[simp] theorem State.nextVisit_route (s : State) : s.nextVisit.route = s.route := by rw [State.nextVisit_eq]
@[simp] theorem State.nextVisit_claims (s : State) : s.nextVisit.claims = s.claims := by rw [State.nextVisit_eq]
@[simp] theorem State.nextVisit_engine (s : State) : s.nextVisit.engine = s.engine := by rw [State.nextVisit_eq]
@[simp] theorem State.nextVisit_mgmt (s : State) : s.nextVisit.mgmt = s.mgmt := by rw [State.nextVisit_eq]
@[simp] theorem State.nextVisit_lossDeclared (s : State) : s.nextVisit.line.lossDeclared = s.line.lossDeclared := by
  rw [State.nextVisit_eq]
@[simp] theorem State.nextVisit_lossTimer (s : State) : s.nextVisit.line.lossTimer = s.line.lossTimer := by
  rw [State.nextVisit_eq]

/-- What is found at a number, apart from the reply slot. -/
theorem State.entryOf_unslotted {s t : State} (h : t.lawView = s.lawView) (n : Nat) :
    (t.entryOf n).map RosterEntry.unslotted = (s.entryOf n).map RosterEntry.unslotted := by
  have find : ∀ u : State, (u.entryOf n).map RosterEntry.unslotted = u.lawView.roster.find? (·.station == n) := fun u => by
    unfold State.entryOf State.lawView
    rw [List.find?_map]; rfl
  rw [find, find, h]

/-- An entry is found again after the choice of a visit, with another reply slot at most. -/
theorem State.entryOf_nextVisit (s : State) (n : Nat) :
    (s.nextVisit.entryOf n).map RosterEntry.unslotted = (s.entryOf n).map RosterEntry.unslotted :=
  State.entryOf_unslotted s.view_nextVisit.1 n

theorem Option.map_of_unslotted {α : Type} (f : RosterEntry → α) (hf : ∀ e, f e.unslotted = f e) {a b : Option RosterEntry}
    (h : a.map RosterEntry.unslotted = b.map RosterEntry.unslotted) : a.map f = b.map f := by
  have lift : ∀ o : Option RosterEntry, o.map f = (o.map RosterEntry.unslotted).map f := fun o => by
    cases o <;> simp [hf]
  rw [lift a, lift b, h]

/-! ### The visit of an entry, of the service station, of a probe -/

/-- R151: the one-shots that a POLL carries have left their slots. -/
theorem State.shotOf_takeShots (s : State) (n controls st k : Nat) :
    (s.takeShots n controls).shotOf st k = if st = n ∧ k < controls then none else s.shotOf st k := by
  unfold State.shotOf State.takeShots
  dsimp only
  rw [List.find?_filter]
  split
  · next h =>
    rw [List.find?_eq_none.mpr]
    · rfl
    · intro o _
      obtain ⟨rfl, hk⟩ := h
      by_cases h1 : o.station = st <;> by_cases h2 : o.control = k <;> simp [h1, h2, hk]
  · next h =>
    congr 2
    funext o
    by_cases h1 : o.station = st <;> by_cases h2 : o.control = k <;> simp [h1, h2]
    simpa [imp_iff_not_or] using h

theorem State.visitEntry_visited {s : State} {e : RosterEntry} (he : e ∈ s.line.roster) : EntryVisited e s (s.visitEntry e) := by
  refine ⟨rfl, rfl, ?_, fun st k => s.shotOf_takeShots e.station e.controls st k⟩
  have hentry : (s.visitEntry e).entryOf e.station =
      (s.entryOf e.station).map fun x => if x.station = e.station then { x with slot := none } else x :=
    State.entryOf_modifyEntry (s.takeShots e.station e.controls) e.station e.station (fun x => { x with slot := none })
      fun _ => rfl
  unfold State.replyOf
  rw [hentry]
  cases h : s.entryOf e.station with
  | none => exact absurd rfl (State.ne_of_entryOf_none h he)
  | some x => simp [State.station_of_entryOf h]

theorem State.visitService_visited (s : State) : ServiceVisited s s.visitService := ⟨rfl, rfl, rfl, rfl⟩

/-- R3: in an ascending roster the first entry that qualifies above a position is the lowest one. -/
theorem LineBlock.nextEntry_of_nextAbove {s : State} {above count : Nat} {e : RosterEntry}
    (hsorted : s.line.roster.Pairwise fun a b => a.station < b.station) (hcount : s.line.cycleCount = count)
    (h : NextAbove above count e s) : s.line.nextEntry above = some e := by
  obtain ⟨hmem, habove, hqual, hfirst⟩ := h
  have qualifies : ∀ x : RosterEntry, x.qualifies s.line.cycleCount = true ↔ x.live ≠ .absent ∨ count = 0 := fun x => by
    simp [RosterEntry.qualifies, hcount]
  unfold LineBlock.nextEntry
  cases hf : s.line.roster.find? fun x => decide (above < x.station) && x.qualifies s.line.cycleCount with
  | none =>
    have := List.find?_eq_none.mp hf e hmem
    simp [habove, qualifies e, hqual] at this
  | some x =>
    obtain ⟨hx, before, after, hsplit, hbefore⟩ := List.find?_eq_some_iff_append.mp hf
    obtain ⟨hxabove, hxqual⟩ := Bool.and_eq_true_iff.mp hx
    have hxabove : above < x.station := by simpa using hxabove
    rw [hsplit] at hmem hsorted
    rcases List.mem_append.mp hmem with hm | hm
    · have := hbefore e hm
      rw [(qualifies e).mpr hqual] at this
      simp [habove] at this
    · rcases List.mem_cons.mp hm with rfl | hm
      · rfl
      · have hlt : x.station < e.station := (List.pairwise_cons.mp (List.pairwise_append.mp hsorted).2.1).1 e hm
        obtain ⟨hlive, hzero⟩ := hfirst x (hsplit ▸ by simp) hxabove hlt
        exact absurd ((qualifies x).mp hxqual) (by simp [hlive, hzero])

theorem LineBlock.nextEntry_of_noneAbove {s : State} {above count : Nat} (hcount : s.line.cycleCount = count)
    (h : NoneAbove above count s) : s.line.nextEntry above = none := by
  refine List.find?_eq_none.mpr fun x hx => ?_
  by_cases habove : above < x.station
  · obtain ⟨hlive, hzero⟩ := h x hx habove
    simp [RosterEntry.qualifies, hcount, hlive, hzero]
  · simp [habove]

/-- R3: the visit from a roster position. -/
theorem State.visitFrom_chosen {s : State} (above : Nat) (hsorted : s.line.roster.Pairwise fun a b => a.station < b.station) :
    (s.visitFrom above).line.cycleCount = s.line.cycleCount ∧
    (∀ e, NextAbove above s.line.cycleCount e s → EntryVisited e s (s.visitFrom above)) ∧
    (NoneAbove above s.line.cycleCount s → ServiceVisited s (s.visitFrom above)) := by
  refine ⟨?_, fun e h => ?_, fun h => ?_⟩
  · unfold State.visitFrom
    split <;> rfl
  · unfold State.visitFrom
    rw [LineBlock.nextEntry_of_nextAbove hsorted rfl h]
    exact State.visitEntry_visited h.1
  · unfold State.visitFrom
    rw [LineBlock.nextEntry_of_noneAbove rfl h]
    exact s.visitService_visited

/-- The numbers that a probe tries, from the discovery pointer on. -/
def probeTry (discovery k : Nat) : Nat := (discovery - 1 + k) % Config.stationMax + 1

/-- R16: every number that may be enrolled is tried. -/
theorem exists_probeTry {discovery m : Nat} (hd : 1 ≤ discovery ∧ discovery ≤ Config.stationMax)
    (hm : 1 ≤ m ∧ m ≤ Config.stationMax) : ∃ k < Config.stationMax, probeTry discovery k = m := by
  unfold probeTry
  simp only [Config.stationMax] at hd hm ⊢
  by_cases h : discovery ≤ m
  · exact ⟨m - discovery, by omega, by omega⟩
  · exact ⟨249 + m - discovery, by omega, by omega⟩

/-- R1, R16: a roster within its capacity leaves a number without an entry. -/
theorem State.exists_unenrolled {s : State} (hlen : s.line.roster.length ≤ Config.rosterMax) :
    ∃ m, 1 ≤ m ∧ m ≤ Config.stationMax ∧ s.enrolled m = false := by
  by_contra hall
  push Not at hall
  have hsub : List.range' 1 Config.stationMax ⊆ s.line.roster.map (·.station) := fun m hm => by
    obtain ⟨h1, h2⟩ := List.mem_range'_1.mp hm
    have henrolled : s.enrolled m = true := by simpa using hall m h1 (by omega)
    obtain ⟨e, he⟩ := Option.isSome_iff_exists.mp henrolled
    exact List.mem_map.mpr ⟨e, State.mem_of_entryOf he, State.station_of_entryOf he⟩
  have hle := (List.subperm_of_subset List.nodup_range' hsub).length_le
  rw [List.length_range', List.length_map] at hle
  simp only [Config.stationMax, Config.rosterMax] at hle hlen
  omega

/-- R16: the probe picks the first number without an entry from the pointer on. -/
theorem State.probeNumber_first {s : State} (hlen : s.line.roster.length ≤ Config.rosterMax)
    (hd : 1 ≤ s.line.discovery ∧ s.line.discovery ≤ Config.stationMax) :
    ∃ j < Config.stationMax, s.probeNumber = probeTry s.line.discovery j ∧ s.enrolled s.probeNumber = false ∧
      ∀ i < j, s.enrolled (probeTry s.line.discovery i) = true := by
  obtain ⟨m, h1, h2, hm⟩ := State.exists_unenrolled hlen
  obtain ⟨k, hk, hkm⟩ := exists_probeTry hd ⟨h1, h2⟩
  have hfind : s.probeNumber =
      (((List.range Config.stationMax).find? fun i => !s.enrolled (probeTry s.line.discovery i)).map
        (probeTry s.line.discovery)).getD s.line.discovery := by
    unfold State.probeNumber
    rw [List.find?_map]; rfl
  cases hf : (List.range Config.stationMax).find? fun i => !s.enrolled (probeTry s.line.discovery i) with
  | none =>
    have := List.find?_eq_none.mp hf k (List.mem_range.mpr hk)
    rw [hkm, hm] at this
    exact absurd rfl this
  | some j =>
    rw [hf] at hfind
    obtain ⟨hj, hmem, hbefore⟩ := List.find?_range_eq_some.mp hf
    refine ⟨j, List.mem_range.mp hmem, hfind, ?_, fun i hi => by simpa using hbefore i hi⟩
    rw [hfind]
    simpa using hj

/-- R2, R3, R16: the choice of the next visit. -/
theorem State.nextVisit_chosen {s : State} (hsorted : s.line.roster.Pairwise fun a b => a.station < b.station)
    (hlen : s.line.roster.length ≤ Config.rosterMax) : VisitChosen s s.nextVisit := by
  refine ⟨fun k hk => ?_, fun hpos hlearn h1 h2 => ?_, fun hpos => ?_⟩
  · unfold State.nextVisit
    rw [hk]
    exact State.visitFrom_chosen k hsorted
  · have hnext : s.nextVisit = s.visitProbe := by
      unfold State.nextVisit
      rw [hpos]
      simp [hlearn]
    rw [hnext]
    obtain ⟨j, hj, hp, hfree, hbefore⟩ := State.probeNumber_first hlen ⟨h1, h2⟩
    exact ⟨rfl, j, hj, s.probeNumber, hp, hfree, hbefore, rfl, rfl, rfl, rfl⟩
  · have hnext : s.nextVisit = s.endCycle := by
      unfold State.nextVisit
      rcases hpos with h | ⟨h, hlearn⟩ <;> rw [h]
      simp [hlearn]
    rw [hnext]
    obtain ⟨hcount, hentry, hservice⟩ :=
      State.visitFrom_chosen (s := s.withLine { s.line with cycleCount := (s.line.cycleCount + 1) % 8 }) 0 hsorted
    have hcount' : s.endCycle.line.cycleCount = (s.line.cycleCount + 1) % 8 := hcount
    rw [hcount']
    exact ⟨rfl, hentry, hservice⟩

/-! ### Missing answers (R9) -/

/-- R9: a miss leaves the state, or counts at the entry, or counts and requests absence. -/
theorem State.miss_cases (e : RosterEntry) (s : State) :
    ((e.live = .absent ∨ s.absenceWaiting e.station = true) ∧ s.miss e = s) ∨
    (¬(e.live = .absent ∨ s.absenceWaiting e.station = true) ∧
      ((e.missed + 1 < Config.missLimit ∧
        s.miss e = s.modifyEntry e.station fun x => { x with missed := e.missed + 1 }) ∨
      (¬e.missed + 1 < Config.missLimit ∧
        s.miss e = (s.modifyEntry e.station fun x => { x with missed := e.missed + 1 }).request (.absence e.station)))) := by
  by_cases h : e.live = .absent ∨ s.absenceWaiting e.station = true
  · exact .inl ⟨h, if_pos h⟩
  · refine .inr ⟨h, ?_⟩
    unfold State.miss
    rw [if_neg h]
    by_cases hm : e.missed + 1 < Config.missLimit
    · exact .inl ⟨hm, if_neg (by omega)⟩
    · exact .inr ⟨hm, if_pos (by omega)⟩

/-- R9: a miss touches the missed counts and the waiting order alone. -/
theorem State.miss_eq (e : RosterEntry) (s : State) :
    s.miss e =
      { s with
        line := { s.line with roster := (s.miss e).line.roster }
        claims := { s.claims with order := (s.miss e).claims.order } } := by
  rcases s.miss_cases e with ⟨-, h⟩ | ⟨-, ⟨-, h⟩ | ⟨-, h⟩⟩ <;> rw [h] <;> rfl

theorem State.judgeMiss_eq (n : Nat) (s : State) :
    s.judgeMiss n =
      { s with
        line := { s.line with roster := (s.judgeMiss n).line.roster }
        claims := { s.claims with order := (s.judgeMiss n).claims.order } } := by
  unfold State.judgeMiss
  split
  · exact State.miss_eq _ s
  · rfl

theorem State.entryOf_miss (e : RosterEntry) (s : State) (k : Nat) :
    (s.miss e).entryOf k = (s.entryOf k).map fun x =>
      if x.station = e.station ∧ ¬(e.live = .absent ∨ s.absenceWaiting e.station = true) then { x with missed := e.missed + 1 }
      else x := by
  have counted := State.entryOf_modifyEntry s e.station k (fun x => { x with missed := e.missed + 1 }) fun _ => rfl
  rcases s.miss_cases e with ⟨hc, h⟩ | ⟨hc, ⟨-, h⟩ | ⟨-, h⟩⟩ <;> rw [h]
  · simp [hc]
  · rw [counted]; simp [hc]
  · refine Eq.trans counted ?_
    simp [hc]

theorem State.order_miss (e : RosterEntry) (s : State) :
    (s.miss e).claims.order =
      if e.live = .absent ∨ s.absenceWaiting e.station = true ∨ e.missed + 1 < Config.missLimit then s.claims.order
      else s.claims.order ++ [.absence e.station] := by
  rcases s.miss_cases e with ⟨hc, h⟩ | ⟨hc, ⟨hm, h⟩ | ⟨hm, h⟩⟩ <;> rw [h]
  · exact (if_pos (hc.elim .inl fun h => .inr (.inl h))).symm
  · exact (if_pos (.inr (.inr hm))).symm
  · exact (if_neg fun hor => hor.elim (fun h => hc (.inl h)) fun h => h.elim (fun h => hc (.inr h)) hm).symm

theorem State.answerTimeout_awaiting {s : State} {n : Nat} (h : s.line.phase = .awaiting n) :
    s.answerTimeout = (s.judgeMiss n).nextVisit := by
  unfold State.answerTimeout
  rw [h]

theorem State.answerReceived_awaiting {s : State} {n : Nat} (h : s.line.phase = .awaiting n) (frame : Arrival) :
    s.answerReceived frame = (s.judgeFrame n frame).nextVisit := by
  unfold State.answerReceived
  rw [h]

/-- Settles O23: a miss changes one entry and the waiting order, and the choice of the visit after it neither. -/
theorem missesAreCounted : Obligations.MissesAreCounted := by
  refine fun s n hphase => ⟨fun frame takes hbad => ?_, _, congrArg Host.Outcome.next (State.answerTimeout_awaiting hphase), ?_⟩
  · show Host.Outcome.next (s.answerReceived _) = Host.Outcome.next (s.report .stationFrame).answerTimeout
    rw [State.answerReceived_awaiting hphase, State.answerTimeout_awaiting (s := s.report .stationFrame) hphase]
    unfold State.judgeFrame
    rw [hbad]
  have found : ∀ k, ((s.judgeMiss n).nextVisit.entryOf k).map RosterEntry.unslotted =
      ((s.judgeMiss n).entryOf k).map RosterEntry.unslotted := (s.judgeMiss n).entryOf_nextVisit
  refine ⟨?_, ?_, ?_, ?_, ?_, fun hno => ⟨?_, fun k => ?_⟩, fun e he => ⟨fun k hk => ?_, ?_, ?_⟩⟩
  · rw [State.nextVisit_lossTimer, State.judgeMiss_eq]
  · rw [State.nextVisit_lossDeclared, State.judgeMiss_eq]
  · rw [State.nextVisit_mgmt, State.judgeMiss_eq]
  · rw [State.nextVisit_claims, State.judgeMiss_eq]
  · rw [State.nextVisit_route, State.judgeMiss_eq]
  · rw [State.nextVisit_claims, State.judgeMiss, hno]
  · refine Option.map_of_unslotted _ (fun _ => rfl) ((found k).trans ?_)
    rw [State.judgeMiss, hno]
  all_goals have hmiss : s.judgeMiss n = s.miss e := by rw [State.judgeMiss, he]
  all_goals obtain rfl := State.station_of_entryOf he
  · refine Option.map_of_unslotted _ (fun _ => rfl) ((found k).trans ?_)
    rw [hmiss, State.entryOf_miss]
    cases hx : s.entryOf k with
    | none => rfl
    | some x => simp [State.station_of_entryOf hx, hk]
  · have hentry := found e.station
    rw [hmiss, State.entryOf_miss, he] at hentry
    rw [hmiss]
    obtain ⟨x, hx, hxe⟩ := Option.map_eq_some_iff.mp hentry
    refine ⟨x, hx, ?_, ?_⟩
    · refine (congrArg RosterEntry.live hxe).trans ?_
      show (if _ then _ else e).live = e.live
      split <;> rfl
    · refine (congrArg RosterEntry.missed hxe).trans ?_
      show (if _ then _ else e).missed = _
      by_cases hc : e.live = .absent ∨ s.absenceWaiting e.station = true <;> simp [hc]
  · rw [State.nextVisit_claims, hmiss]
    exact s.order_miss e

/-! ### Visits after a miss (R7) -/

@[simp] theorem State.pollCodes_length (s : State) (n k : Nat) : (s.pollCodes n k).length = k := by
  simp [State.pollCodes]

/-- R151: what the codes of a POLL are read from. -/
theorem State.pollCodes_congr {s t : State} (hr : t.route = s.route) (hc : t.claims.circuits = s.claims.circuits)
    (htaken : t.takenRecords = s.takenRecords) (hp : t.player = s.player) (hcues : t.cues = s.cues)
    (hf : t.feedback = s.feedback) (n k : Nat) : t.pollCodes n k = s.pollCodes n k := by
  have hwaits : ∀ k, t.waits n k = s.waits n k := fun k => by
    unfold State.waits
    rw [hcues, htaken, hf]
  have howns : ∀ k, t.ownsClaim n k = s.ownsClaim n k := fun k => by
    unfold State.ownsClaim State.circ
    rw [hc]
  have hgoverns : ∀ k, t.governsInForce n k = s.governsInForce n k := fun k => by
    unfold State.governsInForce State.governing State.window
    rw [hr, hp, hcues]
  refine List.map_congr_left fun k _ => ?_
  unfold State.pollCode State.steadyCode
  rw [hf, hwaits, howns, hgoverns]

/-- R3: the choice of a visit is read from the stations, counts, live states and replies of the roster, and from the codes of a POLL. -/
theorem VisitChosen.congr {s s' t : State} {f : RosterEntry → RosterEntry} (h : VisitChosen s' t)
    (hline : s'.line = { s.line with roster := s.line.roster.map f })
    (hf : ∀ e, (f e).station = e.station ∧ (f e).controls = e.controls ∧ (f e).live = e.live ∧ (f e).slot = e.slot)
    (hfeedback : s'.feedback = s.feedback) (hmgmt : s'.mgmt = s.mgmt) (hcodes : ∀ n k, s'.pollCodes n k = s.pollCodes n k) :
    VisitChosen s t := by
  have hmem : ∀ e ∈ s.line.roster, f e ∈ s'.line.roster := fun e he => by
    rw [hline]; exact List.mem_map_of_mem he
  have hback : ∀ x ∈ s'.line.roster, ∃ e ∈ s.line.roster, f e = x := fun x hx => by
    rw [hline] at hx; exact List.mem_map.mp hx
  have hshots : ∀ st k, s'.shotOf st k = s.shotOf st k := fun st k => by unfold State.shotOf; rw [hfeedback]
  have above : ∀ {k count e}, NextAbove k count e s → NextAbove k count (f e) s' := fun {k count e} ⟨h1, h2, h3, h4⟩ => by
    obtain ⟨hst, -, hlive, -⟩ := hf e
    refine ⟨hmem e h1, by rw [hst]; exact h2, by rw [hlive]; exact h3, fun x hx => ?_⟩
    obtain ⟨y, hy, rfl⟩ := hback x hx
    rw [(hf y).1, (hf y).2.2.1, hst]
    exact h4 y hy
  have none_ : ∀ {k count}, NoneAbove k count s → NoneAbove k count s' := fun {k count} hn x hx => by
    obtain ⟨y, hy, rfl⟩ := hback x hx
    rw [(hf y).1, (hf y).2.2.1]
    exact hn y hy
  have visited : ∀ {e}, EntryVisited (f e) s' t → EntryVisited e s t := fun {e} ⟨h1, h2, h3, h4⟩ => by
    obtain ⟨hst, hcontrols, -, hslot⟩ := hf e
    rw [hst] at h1 h3 h4
    rw [hcodes, hst, hcontrols, hslot] at h2
    rw [hcontrols] at h4
    exact ⟨h1, h2, h3, fun st k => by rw [h4, hshots]⟩
  have service : ServiceVisited s' t → ServiceVisited s t := fun ⟨h1, h2, h3, h4⟩ =>
    ⟨h1, h2, h3.trans hfeedback, by rw [h4, hline]⟩
  have enrolled : ∀ n, s'.enrolled n = s.enrolled n := fun n => by
    unfold State.enrolled State.entryOf
    rw [hline, List.find?_map, Option.isSome_map]
    congr 2
    funext e
    simp [(hf e).1]
  have hpos : s'.line.position = s.line.position := by rw [hline]
  have hcount : s'.line.cycleCount = s.line.cycleCount := by rw [hline]
  have hdisc : s'.line.discovery = s.line.discovery := by rw [hline]
  obtain ⟨h1, h2, h3⟩ := h
  rw [hpos, hcount] at h1
  rw [hpos, hcount, hmgmt, hdisc, hfeedback] at h2
  simp only [enrolled] at h2
  rw [hpos, hcount, hmgmt] at h3
  refine ⟨fun k hk => ?_, h2, fun hp => ?_⟩
  · obtain ⟨hc, he, hs⟩ := h1 k hk
    exact ⟨hc, fun e hn => visited (he _ (above hn)), fun hn => service (hs (none_ hn))⟩
  · obtain ⟨hc, he, hs⟩ := h3 hp
    exact ⟨hc, fun e hn => visited (he _ (above hn)), fun hn => service (hs (none_ hn))⟩

/-- R9: a miss changes no more of an entry than its count of misses. -/
theorem State.judgeMiss_line (n : Nat) (s : State) :
    ∃ f : RosterEntry → RosterEntry, (s.judgeMiss n).line = { s.line with roster := s.line.roster.map f } ∧
      ∀ e, (f e).station = e.station ∧ (f e).controls = e.controls ∧ (f e).live = e.live ∧ (f e).slot = e.slot := by
  have same : ∃ f : RosterEntry → RosterEntry, s.line = { s.line with roster := s.line.roster.map f } ∧
      ∀ e, (f e).station = e.station ∧ (f e).controls = e.controls ∧ (f e).live = e.live ∧ (f e).slot = e.slot :=
    ⟨id, by rw [List.map_id], fun _ => ⟨rfl, rfl, rfl, rfl⟩⟩
  unfold State.judgeMiss
  split
  · next e _ =>
    have hf : ∀ x : RosterEntry, (if x.station = e.station then { x with missed := e.missed + 1 } else x).station = x.station ∧
        (if x.station = e.station then { x with missed := e.missed + 1 } else x).controls = x.controls ∧
        (if x.station = e.station then { x with missed := e.missed + 1 } else x).live = x.live ∧
        (if x.station = e.station then { x with missed := e.missed + 1 } else x).slot = x.slot := fun x => by
      split <;> exact ⟨rfl, rfl, rfl, rfl⟩
    rcases s.miss_cases e with ⟨-, h⟩ | ⟨-, ⟨-, h⟩ | ⟨-, h⟩⟩ <;> rw [h]
    · exact same
    · exact ⟨_, rfl, hf⟩
    · exact ⟨_, rfl, hf⟩
  · exact same

/-- R9: an absence request is no taken record. -/
theorem State.takenRecords_judgeMiss (n : Nat) (s : State) : (s.judgeMiss n).takenRecords = s.takenRecords := by
  unfold State.judgeMiss
  split
  · next e _ =>
    rcases s.miss_cases e with ⟨-, h⟩ | ⟨-, ⟨-, h⟩ | ⟨-, h⟩⟩ <;> rw [h]
    · rfl
    · simp [State.takenRecords]
  · rfl

theorem State.nextVisit_chosen_judgeMiss {s : State} (n : Nat)
    (hsorted : s.line.roster.Pairwise fun a b => a.station < b.station) (hlen : s.line.roster.length ≤ Config.rosterMax) :
    VisitChosen s (s.judgeMiss n).nextVisit := by
  obtain ⟨f, hline, hf⟩ := s.judgeMiss_line n
  have heq := s.judgeMiss_eq n
  have hroster : (s.judgeMiss n).line.roster = s.line.roster.map f := by rw [hline]
  have chosen : VisitChosen (s.judgeMiss n) (s.judgeMiss n).nextVisit := by
    refine State.nextVisit_chosen ?_ (by rw [hroster, List.length_map]; exact hlen)
    rw [hroster, List.pairwise_map]
    simpa only [fun e => (hf e).1] using hsorted
  exact chosen.congr hline hf (by rw [heq]) (by rw [heq])
    (State.pollCodes_congr (by rw [heq]) (by rw [heq]) (s.takenRecords_judgeMiss n) (by rw [heq]) (by rw [heq]) (by rw [heq]))

/-! ### The records of an answer (R12) -/

/-- R12, R22: a record offered to the intake queue touches the queue, the flags and the one-shots alone. -/
theorem State.offerRaw_eq (station controls : Nat) (r : RawEvent) (s : State) :
    s.offerRaw station controls r =
      { s with
        route := { s.route with intake := (s.offerRaw station controls r).route.intake }
        mgmt := { s.mgmt with flags := (s.offerRaw station controls r).mgmt.flags }
        feedback := { s.feedback with shots := (s.offerRaw station controls r).feedback.shots } } := by
  unfold State.offerRaw
  split
  · next e _ =>
    unfold State.offerEvent
    split
    · rfl
    · split
      · rw [State.outcome_shots]; rfl
      · rfl
  · rfl

/-- The records of an answer offered one after another, no record being taken between them. -/
def State.offerAll (station controls : Nat) (l : List RawEvent) (s : State) : State :=
  State.takeEvents station controls [] l s

theorem State.offerAll_cons (station controls : Nat) (r : RawEvent) (l : List RawEvent) (s : State) :
    s.offerAll station controls (r :: l) = (s.offerRaw station controls r).offerAll station controls l := rfl

theorem State.offerAll_eq (station controls : Nat) (l : List RawEvent) (s : State) :
    s.offerAll station controls l =
      { s with
        route := { s.route with intake := (s.offerAll station controls l).route.intake }
        mgmt := { s.mgmt with flags := (s.offerAll station controls l).mgmt.flags }
        feedback := { s.feedback with shots := (s.offerAll station controls l).feedback.shots } } := by
  induction l generalizing s with
  | nil => rfl
  | cons r rest ih =>
    rw [State.offerAll_cons, ih, State.offerRaw_eq]

/-- R8, R17, R18: what is heard on the line changes the line-loss timer and the declaration of the line block alone. -/
theorem State.lineHeard_line (s : State) :
    s.lineHeard.line =
      { s.line with lossDeclared := s.lineHeard.line.lossDeclared, lossTimer := s.lineHeard.line.lossTimer } := by
  unfold State.lineHeard State.startLossTimer
  repeat' split
  all_goals rfl

/-- R8: the entry of a station that has answered. -/
def RosterEntry.heard (n : Nat) (e : RosterEntry) : RosterEntry :=
  if e.station = n then { e with live := .present, missed := 0 } else e

/-- The state after the judgement of an answer with event records of an enrolled station, before the next visit is chosen. -/
def State.eventsJudged (e : RosterEntry) (l : List RawEvent) (s : State) : State := s.validAnswer e [] (.events l)

theorem State.eventsJudged_roster (e : RosterEntry) (l : List RawEvent) (s : State) :
    (s.eventsJudged e l).line =
      { s.line with
        roster := s.line.roster.map (RosterEntry.heard e.station)
        lossDeclared := (s.eventsJudged e l).line.lossDeclared
        lossTimer := (s.eventsJudged e l).line.lossTimer } := by
  have h : ∀ u : State, (u.lineHeard.offerAll e.station e.controls l).line =
      { u.line with
        lossDeclared := (u.lineHeard.offerAll e.station e.controls l).line.lossDeclared
        lossTimer := (u.lineHeard.offerAll e.station e.controls l).line.lossTimer } := fun u => by
    rw [State.offerAll_eq]
    exact u.lineHeard_line
  exact h ((s.modifyEntry e.station fun x => { x with live := .present, missed := 0 }).withdrawAbsence e.station)

theorem State.judgeFrame_events {s : State} {n : Nat} {e : RosterEntry} {frame : List Byte} {l : List RawEvent}
    (he : s.entryOf n = some e) (hl : answerOf n frame = some (.events l)) :
    s.judgeFrame n { bytes := frame } = s.eventsJudged e l := by
  unfold State.judgeFrame State.judgeValid
  rw [hl, he]; rfl

/-- Settles O24: a miss leaves what the choice of a visit reads, and an answer of a station at or below the position leaves the entries
above it. -/
theorem visitsFollowTheCycle : Obligations.VisitsFollowTheCycle := by
  refine ⟨fun s n hphase hsorted hlen => ⟨_, congrArg Host.Outcome.next (State.answerTimeout_awaiting hphase), ?_⟩,
    fun s n e frame l k hphase he hl hpos hnk hsorted => ?_,
    fun s n frame hphase hsorted hlen => ⟨_, congrArg Host.Outcome.next (State.answerReceived_awaiting hphase frame), ?_⟩⟩
  · exact State.nextVisit_chosen_judgeMiss n hsorted hlen
  · have hline := s.eventsJudged_roster e l
    have hen := State.station_of_entryOf he
    have hnext : (s.eventsJudged e l).nextVisit = (s.eventsJudged e l).visitFrom k := by
      unfold State.nextVisit
      rw [hline, hpos]
    have hst : ∀ x : RosterEntry, (x.heard e.station).station = x.station := fun x => by
      unfold RosterEntry.heard
      split <;> rfl
    have hkept : ∀ x : RosterEntry, k < x.station → x.heard e.station = x := fun x hx => if_neg (by omega)
    have hroster : (s.eventsJudged e l).line.roster = s.line.roster.map (RosterEntry.heard e.station) := by rw [hline]
    have hcount : (s.eventsJudged e l).line.cycleCount = s.line.cycleCount := by rw [hline]
    have hslot : (s.eventsJudged e l).line.serviceSlot = s.line.serviceSlot := by rw [hline]
    have hback : ∀ y ∈ (s.eventsJudged e l).line.roster, k < y.station → y ∈ s.line.roster := fun y hy hky => by
      rw [hroster] at hy
      obtain ⟨x, hx, rfl⟩ := List.mem_map.mp hy
      rw [hst] at hky
      rw [hkept x hky]; exact hx
    obtain ⟨hc, hentry, hservice⟩ := State.visitFrom_chosen (s := s.eventsJudged e l) k (by
      rw [hroster, List.pairwise_map]
      simpa only [hst] using hsorted)
    rw [hcount] at hc hentry hservice
    refine ⟨_, congrArg Host.Outcome.next (State.answerReceived_awaiting hphase _), ?_⟩
    rw [State.judgeFrame_events he hl, hnext]
    refine ⟨hc, fun x ⟨hx, habove, hqual, hfirst⟩ => ?_, fun hnone => ?_⟩
    · obtain ⟨hposition, hphase', -⟩ := hentry x
        ⟨by rw [hroster]; exact List.mem_map.mpr ⟨x, hx, hkept x habove⟩, habove, hqual,
          fun y hy hky => hfirst y (hback y hy hky) hky⟩
      exact ⟨hposition, _, hphase', rfl, rfl, by simp⟩
    · obtain ⟨hposition, -, -, hphase'⟩ := hservice fun y hy hky => hnone y (hback y hy hky) hky
      exact ⟨hposition, by rw [hphase', hslot]⟩
  · exact State.nextVisit_chosen hsorted hlen

end Sys2Proof.Machine
end

section
/-! PROOFS. Valid answers (O22): the check of event records, what is heard on the line, the intake queue, and the taking of its head. -/

namespace Sys2Proof.Machine

/-! ### The check of an event record (R12) -/

theorem eventKindOf_code {n : Nat} {k : EventKind} (h : eventKindOf n = some k) : k.code = n := by
  unfold eventKindOf at h
  split at h <;> cases h <;> rfl

theorem eventKindOf_none {n : Nat} : eventKindOf n = none ↔ 4 < n := by
  unfold eventKindOf
  split <;> simp_all
  omega

theorem eventKindOf_value {n : Nat} {k : EventKind} (h : eventKindOf n = some k) : k = .value ↔ n = 4 := by
  rw [← eventKindOf_code h]
  cases k <;> simp [EventKind.code]

theorem RawEvent.checked_none (station controls : Nat) (r : RawEvent) :
    r.checked station controls = none ↔ controls ≤ r.control ∨ (r.kind = 4 ∧ 1000 < r.value) ∨ 4 < r.kind := by
  unfold RawEvent.checked
  cases hk : eventKindOf r.kind with
  | none => simp [eventKindOf_none.mp hk]
  | some k =>
    have hle : ¬4 < r.kind := fun h => by
      rw [eventKindOf_none.mpr h] at hk; cases hk
    simp only [eventKindOf_value hk, ite_eq_right_iff, reduceCtorEq, imp_false, hle, or_false]
    omega

theorem RawEvent.checked_some {station controls : Nat} {r : RawEvent} {e : EventRecord} (h : r.checked station controls = some e) :
    e.station = station ∧ e.control = r.control ∧ e.kind.code = r.kind ∧ e.value = r.value ∧ r.control < controls := by
  unfold RawEvent.checked at h
  split at h
  · next k hk =>
    split at h
    · next hc =>
      cases h
      exact ⟨rfl, rfl, eventKindOf_code hk, rfl, hc.1⟩
    · cases h
  · cases h

/-! ### What is heard on the line (R8, R17, R18, R166) -/

/-- R17: where the timer does not run, its start leaves it as it was. -/
theorem State.startLossTimer_eq (s : State) :
    s.startLossTimer =
      { s with
        line :=
          { s.line with
            lossTimer :=
              if s.part = .running ∧ s.line.roster ≠ [] ∧ s.line.lossDeclared = false then some s.mgmt.settings.lineLoss
              else s.line.lossTimer } } := by
  unfold State.startLossTimer
  split <;> rfl

/-- R8, R17, R18: an answer heard ends a declared line loss and starts the timer again. -/
theorem State.lineHeard_eq (s : State) :
    s.lineHeard =
      { (if s.line.lossDeclared then s.declareOk else s) with
        line :=
          { s.line with
            lossDeclared := false
            lossTimer :=
              if s.part = .running ∧ s.line.roster ≠ [] then some s.mgmt.settings.lineLoss else s.line.lossTimer } } := by
  unfold State.lineHeard
  cases h : s.line.lossDeclared with
  | true =>
    rw [if_pos rfl, if_pos rfl, State.startLossTimer_eq]
    simp [State.declareOk]
  | false =>
    rw [if_neg (by simp), if_neg (by simp), State.startLossTimer_eq]
    simp [h]

/-- What is heard on the line touches the line block and the circuits alone. -/
theorem State.lineHeard_frame (s : State) :
    s.lineHeard =
      { s with
        line := s.lineHeard.line
        claims := { s.claims with circuits := s.lineHeard.claims.circuits }
        engine := { s.engine with circuits := s.lineHeard.engine.circuits } } := by
  rw [State.lineHeard_eq]
  cases s.line.lossDeclared <;> rfl

theorem State.lineHeard_circuits (s : State) :
    (s.line.lossDeclared = true → LossEnded s s.lineHeard) ∧
    (s.line.lossDeclared = false → ∀ c : Circuit, s.lineHeard.circ c = s.circ c ∧ s.lineHeard.eng c = s.eng c) := by
  rw [State.lineHeard_eq]
  constructor
  · intro h
    rw [if_pos h]
    exact s.declareOk_ends
  · intro h c
    rw [if_neg (by simp [h])]
    exact ⟨rfl, rfl⟩

/-! ### Records offered to the intake queue (R12, R22) -/

theorem State.offerRaw_bad {s : State} {station controls : Nat} {r : RawEvent} (h : r.checked station controls = none) :
    s.offerRaw station controls r = s.report .stationFrame := by
  unfold State.offerRaw
  rw [h]

theorem State.offerRaw_room {s : State} {station controls : Nat} {r : RawEvent} {e : EventRecord}
    (h : r.checked station controls = some e) (hroom : s.route.intake.length < Config.intakeMax) :
    s.offerRaw station controls r = { s with route := { s.route with intake := s.route.intake ++ [e] } } := by
  unfold State.offerRaw
  rw [h]
  exact if_pos hroom

/-- R22: a record that meets a full queue is dropped, and a PRESS is given NACK. -/
theorem State.offerRaw_full {s : State} {station controls : Nat} {r : RawEvent} {e : EventRecord}
    (h : r.checked station controls = some e) (hfull : ¬s.route.intake.length < Config.intakeMax) :
    s.offerRaw station controls r =
      if e.kind = .press then (s.report .intakeOverflow).outcome station e.control false else s.report .intakeOverflow := by
  unfold State.offerRaw
  rw [h]
  obtain ⟨hst, -⟩ := RawEvent.checked_some h
  show s.offerEvent e = _
  unfold State.offerEvent
  rw [if_neg hfull, hst]

theorem State.offerRaw_full_route {s : State} {station controls : Nat} {r : RawEvent} {e : EventRecord}
    (h : r.checked station controls = some e) (hfull : ¬s.route.intake.length < Config.intakeMax) :
    (s.offerRaw station controls r).route = s.route ∧
      (s.offerRaw station controls r).mgmt = { s.mgmt with flags := s.mgmt.flags ||| Flag.intakeOverflow.word } := by
  rw [State.offerRaw_full h hfull]
  split
  · rw [State.outcome_feedback_only]; exact ⟨rfl, rfl⟩
  · exact ⟨rfl, rfl⟩

/-- R12, R22: the records that pass join the queue in order as far as it has room. -/
theorem State.intake_offerAll (station controls : Nat) (l : List RawEvent) {s : State}
    (hs : s.route.intake.length ≤ Config.intakeMax) :
    (s.offerAll station controls l).route.intake =
      s.route.intake ++ (l.filterMap (RawEvent.checked station controls)).take (Config.intakeMax - s.route.intake.length) := by
  induction l generalizing s with
  | nil => simp [State.offerAll, State.takeEvents]
  | cons r rest ih =>
    rw [State.offerAll_cons]
    cases h : r.checked station controls with
    | none =>
      rw [State.offerRaw_bad h, ih (s := s.report .stationFrame) hs, List.filterMap_cons_none h]; rfl
    | some e =>
      rw [List.filterMap_cons_some h]
      by_cases hroom : s.route.intake.length < Config.intakeMax
      · obtain ⟨k, hk⟩ : ∃ k, Config.intakeMax - s.route.intake.length = k + 1 := ⟨_, (Nat.sub_add_cancel (by omega)).symm⟩
        rw [State.offerRaw_room h hroom, ih (by simpa using hroom)]
        dsimp only
        rw [List.length_append, List.length_singleton, ← Nat.sub_sub, hk]
        simp
      · have hroute := (State.offerRaw_full_route h hroom).1
        rw [ih (by rw [hroute]; exact hs), hroute]
        simp [Nat.sub_eq_zero_of_le (not_lt.mp hroom)]

/-- A flag that is set once stays set when it is reported again. -/
theorem or_flag_again (flags others flag : Word) (p : Prop) [Decidable p] :
    flags ||| flag ||| others ||| (if p then 0#16 else flag) = flags ||| others ||| flag := by
  rw [BitVec.or_assoc flags, BitVec.or_comm flag, ← BitVec.or_assoc]
  split
  · rw [BitVec.or_zero]
  · rw [BitVec.or_assoc, BitVec.or_self]

/-- R12, R22: the flags that the records of an answer set. -/
theorem State.flags_offerAll (station controls : Nat) (l : List RawEvent) {s : State}
    (hs : s.route.intake.length ≤ Config.intakeMax) :
    (s.offerAll station controls l).mgmt.flags =
      s.mgmt.flags ||| (if l.all fun r => (r.checked station controls).isSome then 0#16 else Flag.stationFrame.word) |||
        (if (l.filterMap (RawEvent.checked station controls)).length ≤ Config.intakeMax - s.route.intake.length then 0#16
          else Flag.intakeOverflow.word) := by
  induction l generalizing s with
  | nil => simp [State.offerAll, State.takeEvents]
  | cons r rest ih =>
    rw [State.offerAll_cons, List.all_cons]
    cases h : r.checked station controls with
    | none =>
      rw [State.offerRaw_bad h, ih (s := s.report .stationFrame) hs, List.filterMap_cons_none h]
      simp only [State.report_mgmt, State.report_route, Option.isSome_none, Bool.false_and, Bool.false_eq_true, if_false]
      congr 1
      split
      · simp
      · rw [BitVec.or_assoc, BitVec.or_self]
    | some e =>
      rw [List.filterMap_cons_some h]
      simp only [Option.isSome_some, Bool.true_and]
      by_cases hroom : s.route.intake.length < Config.intakeMax
      · rw [State.offerRaw_room h hroom, ih (by simpa using hroom)]
        congr 2
        simp only [List.length_append, List.length_cons, List.length_nil]
        rw [eq_iff_iff]
        omega
      · obtain ⟨hroute, hmgmt⟩ := State.offerRaw_full_route h hroom
        have hover : ¬(rest.filterMap (RawEvent.checked station controls)).length + 1 ≤
            Config.intakeMax - s.route.intake.length := by omega
        rw [ih (by rw [hroute]; exact hs), hroute, hmgmt, List.length_cons, if_neg hover]
        exact or_flag_again _ _ _ _

/-- An outcome for one station control leaves the one-shot of another. -/
theorem State.shotOf_outcome_other (s : State) {n c st k : Nat} (ack : Bool) (h : ¬(st = n ∧ k = c)) :
    (s.outcome n c ack).shotOf st k = s.shotOf st k := by
  rcases s.outcome_cases n c ack with ⟨-, heq⟩ | ⟨-, heq⟩ <;> rw [heq]
  unfold State.shotOf
  dsimp only
  have hlast : ¬(n = st ∧ c = k) := fun ⟨h1, h2⟩ => h ⟨h1.symm, h2.symm⟩
  rw [List.find?_append, List.find?_filter, List.find?_singleton]
  have hfind : (fun o : OneShot => (!(o.station == n && o.control == c)) && (o.station == st && o.control == k)) =
      fun o => o.station == st && o.control == k := by
    funext o
    by_cases h1 : o.station = st <;> by_cases h2 : o.control = k <;> simp [h1, h2]
    exact not_and_or.mp h
  simp only [Bool.decide_and, Bool.decide_eq_true, hfind]
  rw [if_neg (by simpa using hlast), Option.or_none]

/-- A NACK that waits in its slot stays while records are offered. -/
theorem State.nack_offerRaw {s : State} {station controls st k : Nat} (r : RawEvent) (h : s.shotOf st k = some false) :
    (s.offerRaw station controls r).shotOf st k = some false := by
  cases hr : r.checked station controls with
  | none => rw [State.offerRaw_bad hr]; exact h
  | some e =>
    by_cases hroom : s.route.intake.length < Config.intakeMax
    · rw [State.offerRaw_room hr hroom]; exact h
    · rw [State.offerRaw_full hr hroom]
      split
      · by_cases hsame : st = station ∧ k = e.control
        · obtain ⟨rfl, rfl⟩ := hsame
          by_cases hhears : (s.report .intakeOverflow).hears st e.control = true
          · exact State.shotOf_outcome_self false hhears
          · unfold State.outcome
            rw [if_neg hhears]; exact h
        · exact (State.shotOf_outcome_other _ false hsame).trans h
      · exact h

theorem State.nack_offerAll {station controls st k : Nat} (l : List RawEvent) {s : State} (h : s.shotOf st k = some false) :
    (s.offerAll station controls l).shotOf st k = some false := by
  induction l generalizing s with
  | nil => exact h
  | cons r rest ih => exact ih (State.nack_offerRaw r h)

theorem State.hears_offerRaw (s : State) (station controls st k : Nat) (r : RawEvent) :
    (s.offerRaw station controls r).hears st k = s.hears st k := by
  rw [State.offerRaw_eq]; rfl

/-- R22: each PRESS that a full queue drops gives its control NACK. -/
theorem State.dropped_offerAll {station controls : Nat} (l : List RawEvent) {s : State}
    (hs : s.route.intake.length ≤ Config.intakeMax) (hh : ∀ k < controls, s.hears station k = true) {e : EventRecord}
    (he : e ∈ (l.filterMap (RawEvent.checked station controls)).drop (Config.intakeMax - s.route.intake.length))
    (hp : e.kind = .press) : (s.offerAll station controls l).shotOf station e.control = some false := by
  induction l generalizing s with
  | nil => simp at he
  | cons r rest ih =>
    rw [State.offerAll_cons]
    have hh' : ∀ k < controls, (s.offerRaw station controls r).hears station k = true := fun k hk => by
      rw [State.hears_offerRaw]; exact hh k hk
    cases h : r.checked station controls with
    | none =>
      rw [List.filterMap_cons_none h] at he
      refine ih ?_ hh' ?_ <;> rw [State.offerRaw_bad h]
      · exact hs
      · exact he
    | some x =>
      rw [List.filterMap_cons_some h] at he
      by_cases hroom : s.route.intake.length < Config.intakeMax
      · obtain ⟨k, hk⟩ : ∃ k, Config.intakeMax - s.route.intake.length = k + 1 := ⟨_, (Nat.sub_add_cancel (by omega)).symm⟩
        refine ih ?_ hh' ?_ <;> rw [State.offerRaw_room h hroom] <;> dsimp only <;>
          rw [List.length_append, List.length_singleton]
        · exact hroom
        · rw [← Nat.sub_sub, hk]
          rwa [hk] at he
      · have hroute := (State.offerRaw_full_route h hroom).1
        have hzero : Config.intakeMax - s.route.intake.length = 0 := Nat.sub_eq_zero_of_le (not_lt.mp hroom)
        rw [hzero] at he
        rcases List.mem_cons.mp he with rfl | he
        · refine State.nack_offerAll rest ?_
          rw [State.offerRaw_full h hroom, if_pos hp]
          obtain ⟨-, hcontrol, -, -, hlt⟩ := RawEvent.checked_some h
          exact State.shotOf_outcome_self false (hh e.control (hcontrol ▸ hlt))
        · refine ih (by rw [hroute]; exact hs) hh' ?_
          rw [hroute, hzero]; exact he

/-! ### A NACK at the choice of a visit (R151) -/

/-- A NACK waits still, or is in the POLL of its station. -/
def NackSent (n k : Nat) (t : State) : Prop :=
  t.shotOf n k = some false ∨ ∃ p, t.line.phase = .sending p ∧ p.station = n ∧ p.codes[k]? = some .nack

theorem State.pollCode_of_shot {s : State} {n k : Nat} (h : s.shotOf n k = some false) : s.pollCode n k = .nack := by
  obtain ⟨o, ho, hack⟩ := Option.map_eq_some_iff.mp h
  unfold State.pollCode
  rw [ho]
  simp [hack]

theorem State.visitFrom_nack {s : State} {n k : Nat} (above : Nat) (h : s.shotOf n k = some false) :
    NackSent n k (s.visitFrom above) := by
  unfold State.visitFrom
  split
  · next e _ =>
    by_cases hcase : n = e.station ∧ k < e.controls
    · obtain ⟨rfl, hk⟩ := hcase
      refine .inr ⟨_, rfl, rfl, ?_⟩
      unfold State.pollCodes
      rw [List.getElem?_map, List.getElem?_range hk]
      exact congrArg some (State.pollCode_of_shot h)
    · exact .inl ((s.shotOf_takeShots e.station e.controls n k).trans ((if_neg hcase).trans h))
  · exact .inl h

theorem State.nextVisit_nack {s : State} {n k : Nat} (h : s.shotOf n k = some false) : NackSent n k s.nextVisit := by
  have cycle : NackSent n k s.endCycle :=
    State.visitFrom_nack (s := s.withLine { s.line with cycleCount := (s.line.cycleCount + 1) % 8 }) 0 h
  unfold State.nextVisit
  split
  · exact State.visitFrom_nack _ h
  · split
    · exact .inl h
    · exact cycle
  · exact cycle

end Sys2Proof.Machine
end

section
/-! PROOFS. The taking of the head of the intake queue within an answer, and valid answers (O22). -/

namespace Sys2Proof.Machine

/-! ### Work that leaves the route block and clears no flag -/

/-- A step that leaves the route block as it was and clears no flag. -/
def FlagsGrow (s t : State) : Prop := t.route = s.route ∧ ∃ w : Word, t.mgmt.flags = s.mgmt.flags ||| w

theorem FlagsGrow.of_same {s t : State} (hr : t.route = s.route) (hf : t.mgmt.flags = s.mgmt.flags) : FlagsGrow s t :=
  ⟨hr, 0#16, by rw [hf, BitVec.or_zero]⟩

theorem FlagsGrow.refl (s : State) : FlagsGrow s s := .of_same rfl rfl

theorem FlagsGrow.trans {s t u : State} (h : FlagsGrow s t) (k : FlagsGrow t u) : FlagsGrow s u := by
  obtain ⟨hr, w, hw⟩ := h
  obtain ⟨kr, v, kv⟩ := k
  exact ⟨kr.trans hr, w ||| v, by rw [kv, hw, BitVec.or_assoc]⟩

/-- R187: a flag that is set stays set where no flag is cleared. -/
theorem FlagsGrow.flagSet {s t : State} (h : FlagsGrow s t) {f : Flag} (hs : s.flagSet f = true) : t.flagSet f = true := by
  obtain ⟨-, w, hw⟩ := h
  unfold State.flagSet at hs ⊢
  rw [hw]
  have hne : s.mgmt.flags &&& f.word ≠ 0 := by simpa using hs
  have hsub : s.mgmt.flags &&& f.word = s.mgmt.flags &&& ((s.mgmt.flags ||| w) &&& f.word) := by
    refine BitVec.eq_of_getLsbD_eq fun i _ => ?_
    simp only [BitVec.getLsbD_and, BitVec.getLsbD_or]
    cases s.mgmt.flags.getLsbD i <;> simp
  have : (s.mgmt.flags ||| w) &&& f.word ≠ 0 := fun h0 => hne (by rw [hsub, h0]; simp)
  simpa using this

theorem State.flagSet_report (s : State) (f : Flag) : (s.report f).flagSet f = true := by
  have hword : f.word ≠ 0 := by cases f <;> decide
  have hself : (s.mgmt.flags ||| f.word) &&& f.word = f.word := by
    refine BitVec.eq_of_getLsbD_eq fun i _ => ?_
    simp only [BitVec.getLsbD_and, BitVec.getLsbD_or]
    cases s.mgmt.flags.getLsbD i <;> simp
  simpa [State.flagSet, hself] using hword

theorem FlagsGrow.outcome (s : State) (st k : Nat) (ack : Bool) : FlagsGrow s (s.outcome st k ack) := by
  rw [State.outcome_feedback_only]
  exact .of_same rfl rfl

theorem FlagsGrow.enterPending (p : Pending) (s : State) : FlagsGrow s (s.enterPending p) := by
  unfold State.enterPending
  repeat' split
  · exact .outcome s _ _ _
  · exact .of_same rfl rfl
  · exact .of_same rfl rfl
  · have reported : FlagsGrow s (s.report .pendingFull) := ⟨rfl, _, rfl⟩
    exact reported.trans (.outcome _ _ _ _)

theorem FlagsGrow.handScene (r : Request) (s : State) : FlagsGrow s (s.handScene r) := by
  unfold State.handScene
  split
  · exact .trans (.of_same rfl rfl) (.outcome _ _ _ _)
  · exact .of_same rfl rfl

theorem FlagsGrow.handSceneAction (i : WindowIndex) (w : Window) (r : EventRecord) (work : PendingWork) (now : Request) (s : State) :
    FlagsGrow s (s.handSceneAction i w r work now) := by
  unfold State.handSceneAction
  split
  · exact .handScene now s
  · exact .enterPending _ s

theorem FlagsGrow.cueEvent (x : Cue) (s : State) : FlagsGrow s (s.cueEvent x none) := by
  unfold State.cueEvent
  dsimp only
  repeat' split
  all_goals exact .of_same rfl rfl

theorem FlagsGrow.act (i : WindowIndex) (w : Window) (r : EventRecord) (s : State) : FlagsGrow s (s.act i w r) := by
  unfold State.act
  dsimp only
  split
  · split
    · unfold State.handClaim
      split
      · exact .of_same rfl rfl
      · exact .enterPending _ s
    · exact .outcome s _ _ _
  · exact .trans (.of_same rfl rfl) (.outcome _ _ _ _)
  · exact .handSceneAction _ _ _ _ _ s
  · exact .handSceneAction _ _ _ _ _ s
  · split
    · exact .outcome s _ _ _
    · exact .of_same rfl rfl
  · exact (FlagsGrow.cueEvent _ s).trans (.outcome _ _ _ _)
  · exact .refl s

theorem FlagsGrow.offerUnrouted (u : Unrouted) (s : State) : FlagsGrow s (s.offerUnrouted u) := by
  unfold State.offerUnrouted
  repeat' split
  all_goals exact .of_same rfl rfl

theorem FlagsGrow.unrouted (r : EventRecord) (s : State) : FlagsGrow s (s.unrouted r) := by
  have offered : FlagsGrow s (if s.mgmt.settings.learn then
      s.offerUnrouted { station := r.station, control := r.control, kind := .event r.kind } else s) := by
    split
    · exact .offerUnrouted _ s
    · exact .refl s
  unfold State.unrouted
  dsimp only
  split
  · exact offered.trans (.outcome _ _ _ _)
  · exact offered

/-- R25: the resolution of a record neither takes nor offers one, and clears no flag. -/
theorem FlagsGrow.resolve (r : EventRecord) (s : State) : FlagsGrow s (s.resolve r) := by
  unfold State.resolve
  split
  · exact .refl s
  · split
    · exact .unrouted r s
    · split
      · exact .outcome s _ _ _
      · exact .act _ _ r s

/-! ### The head of the queue taken within an answer (R12, R23) -/

/-- R23, R67: where the Route Resolver is free, one take removes the head of the queue and resolves it. -/
theorem State.takeHeads_one {s : State} {r : EventRecord} {rest : List EventRecord} (h : s.TakesHead r rest) :
    State.takeHeads 1 s = State.resolve r { s with route := { s.route with intake := rest } } := by
  obtain ⟨hp, hheld, hrecall, hintake⟩ := h
  have hgrant : s.claimActionGrant = s := by
    unfold State.claimActionGrant
    split
    · next a hg =>
      rw [State.order_of_grantable hg] at hheld
      simp [Request.heldByResolver] at hheld
    · rfl
  have hfree : s.resolverFree = true := by
    simp [State.resolverFree, State.active_of_ne hp, hheld, hrecall]
  show s.claimActionGrant.takeEventRecord = _
  rw [hgrant]
  unfold State.takeEventRecord
  rw [hintake]
  exact if_pos hfree

theorem State.takeHeads_one_grow {s : State} {r : EventRecord} {rest : List EventRecord} (h : s.TakesHead r rest) :
    (State.takeHeads 1 s).route.intake = rest ∧ ∃ w : Word, (State.takeHeads 1 s).mgmt.flags = s.mgmt.flags ||| w := by
  rw [State.takeHeads_one h]
  obtain ⟨hroute, hflags⟩ := FlagsGrow.resolve r { s with route := { s.route with intake := rest } }
  exact ⟨congrArg RouteBlock.intake hroute, hflags⟩

/-- R22: a good record joins a queue with room behind its records. -/
theorem State.intake_offerRaw {s : State} {station controls : Nat} {r : RawEvent} {e : EventRecord}
    (h : r.checked station controls = some e) (hroom : s.route.intake.length < Config.intakeMax) :
    (s.offerRaw station controls r).route.intake = s.route.intake ++ [e] ∧
      (s.offerRaw station controls r).mgmt.flags = s.mgmt.flags := by
  rw [State.offerRaw_room h hroom]
  exact ⟨rfl, rfl⟩

/-- R22: a good record that meets a full queue sets INTAKE_OVERFLOW. -/
theorem State.overflow_offerRaw {s : State} {station controls : Nat} {r : RawEvent} {e : EventRecord}
    (h : r.checked station controls = some e) (hfull : s.route.intake.length = Config.intakeMax) :
    (s.offerRaw station controls r).route = s.route ∧ (s.offerRaw station controls r).flagSet .intakeOverflow = true := by
  obtain ⟨hroute, hmgmt⟩ := State.offerRaw_full_route h (by rw [hfull]; exact lt_irrefl _)
  refine ⟨hroute, ?_⟩
  have := s.flagSet_report .intakeOverflow
  unfold State.flagSet at this ⊢
  rwa [hmgmt]

/-- R12: a take before the first of two good records lets the first into a full queue. -/
theorem State.takeEvents_first {s : State} {station controls : Nat} {r1 r2 : RawEvent} {e1 e2 : EventRecord} {x : EventRecord}
    {rest : List EventRecord} (h1 : r1.checked station controls = some e1) (h2 : r2.checked station controls = some e2)
    (hs : s.TakesHead x rest) (hfull : rest.length + 1 = Config.intakeMax) :
    (s.takeEvents station controls [1] [r1, r2]).route.intake = rest ++ [e1] ∧
      (s.takeEvents station controls [1] [r1, r2]).flagSet .intakeOverflow = true := by
  show ((State.offerRaw station controls r1 (State.takeHeads 1 s)).offerRaw station controls r2).route.intake = _ ∧
    ((State.offerRaw station controls r1 (State.takeHeads 1 s)).offerRaw station controls r2).flagSet _ = _
  have htaken := (State.takeHeads_one_grow hs).1
  have hfirst := (State.intake_offerRaw h1 (s := State.takeHeads 1 s) (by rw [htaken]; omega)).1
  rw [htaken] at hfirst
  obtain ⟨hroute, hflag⟩ := State.overflow_offerRaw h2 (s := State.offerRaw station controls r1 (State.takeHeads 1 s)) (by
    rw [hfirst]; simpa using hfull)
  exact ⟨by rw [hroute, hfirst], hflag⟩

/-- R12: a take between two good records lets the second into a full queue. -/
theorem State.takeEvents_second {s : State} {station controls : Nat} {r1 r2 : RawEvent} {e1 e2 : EventRecord} {x : EventRecord}
    {rest : List EventRecord} (h1 : r1.checked station controls = some e1) (h2 : r2.checked station controls = some e2)
    (hs : s.TakesHead x rest) (hfull : rest.length + 1 = Config.intakeMax) :
    (s.takeEvents station controls [0, 1] [r1, r2]).route.intake = rest ++ [e2] ∧
      (s.takeEvents station controls [0, 1] [r1, r2]).flagSet .intakeOverflow = true := by
  show (State.offerRaw station controls r2 (State.takeHeads 1 (s.offerRaw station controls r1))).route.intake = _ ∧
    (State.offerRaw station controls r2 (State.takeHeads 1 (s.offerRaw station controls r1))).flagSet _ = _
  obtain ⟨hp, hheld, hrecall, hintake⟩ := hs
  obtain ⟨hroute, hflag⟩ := State.overflow_offerRaw h1 (s := s) (by rw [hintake]; simpa using hfull)
  have heq := s.offerRaw_eq station controls r1
  have hs' : (s.offerRaw station controls r1).TakesHead x rest :=
    ⟨by rw [heq]; exact hp, by rw [heq]; exact hheld, by rw [heq]; exact hrecall, by rw [hroute]; exact hintake⟩
  obtain ⟨htaken, w, hw⟩ := State.takeHeads_one_grow hs'
  obtain ⟨hsecond, hflags⟩ :=
    State.intake_offerRaw h2 (s := State.takeHeads 1 (s.offerRaw station controls r1)) (by rw [htaken]; omega)
  refine ⟨by rw [hsecond, htaken], ?_⟩
  have grow : FlagsGrow (s.offerRaw station controls r1)
      { s.offerRaw station controls r1 with
        mgmt := (State.offerRaw station controls r2 (State.takeHeads 1 (s.offerRaw station controls r1))).mgmt } :=
    ⟨rfl, w, hflags.trans hw⟩
  exact grow.flagSet hflag

/-! ### A valid answer of an enrolled station (R8) -/

/-- R8: the state of an answer of an enrolled station before its contents are taken. -/
def State.heard (n : Nat) (s : State) : State :=
  ((s.modifyEntry n fun x => { x with live := .present, missed := 0 }).withdrawAbsence n).lineHeard

theorem State.heard_frame (n : Nat) (s : State) :
    s.heard n =
      { s with
        line := { s.line with
          roster := s.line.roster.map (RosterEntry.heard n)
          lossDeclared := false
          lossTimer :=
            if s.part = .running ∧ s.line.roster ≠ [] then some s.mgmt.settings.lineLoss else s.line.lossTimer }
        claims := { s.claims with
          order := s.claims.order.filter fun r => !(r == .absence n)
          circuits := (s.heard n).claims.circuits }
        engine := { s.engine with circuits := (s.heard n).engine.circuits } } := by
  have hframe := ((s.modifyEntry n fun x => { x with live := .present, missed := 0 }).withdrawAbsence n).lineHeard_frame
  have hline : (s.heard n).line = _ :=
    congrArg State.line ((s.modifyEntry n fun x => { x with live := .present, missed := 0 }).withdrawAbsence n).lineHeard_eq
  have hne : (s.modifyEntry n fun x => { x with live := .present, missed := 0 }).line.roster ≠ [] ↔ s.line.roster ≠ [] :=
    not_congr List.map_eq_nil_iff
  refine hframe.trans ?_
  rw [show ((s.modifyEntry n fun x => { x with live := .present, missed := 0 }).withdrawAbsence n).lineHeard.line = _ from hline]
  simp only [State.withdrawAbsence, State.withdraw, hne]
  rfl

theorem State.heard_circuits (n : Nat) (s : State) :
    (s.line.lossDeclared = true → LossEnded s (s.heard n)) ∧
    (s.line.lossDeclared = false → ∀ c : Circuit, (s.heard n).circ c = s.circ c ∧ (s.heard n).eng c = s.eng c) := by
  obtain ⟨hlost, hok⟩ :=
    ((s.modifyEntry n fun x => { x with live := .present, missed := 0 }).withdrawAbsence n).lineHeard_circuits
  exact ⟨fun h => (hlost h).congr (fun _ => rfl) (fun _ => rfl) rfl rfl rfl (fun _ => rfl) fun _ => rfl, hok⟩

/-- R18, R166: the end of a line loss empties the LOSS slots and leaves the claims and the EGRESS slots. -/
theorem LossEnded.slots {s t : State} (h : LossEnded s t) (c : Circuit) :
    (t.circ c).claims = (s.circ c).claims ∧ (t.circ c).egress = (s.circ c).egress ∧ (t.circ c).loss = none := by
  obtain ⟨hnone, hsome⟩ := h c
  cases hl : (s.circ c).loss with
  | none => rw [(hnone hl).1]; exact ⟨rfl, rfl, hl⟩
  | some v => rw [(hsome (by rw [hl]; rfl)).1]; exact ⟨rfl, rfl, rfl⟩

theorem State.entryOf_heard {s : State} {n : Nat} {e : RosterEntry} (he : s.entryOf n = some e) :
    (s.heard n).entryOf n = some { e with live := .present, missed := 0 } := by
  have h := State.entryOf_modifyEntry s n n (fun x => { x with live := .present, missed := 0 }) fun _ => rfl
  have hheard : (s.heard n).entryOf n =
      (s.modifyEntry n fun x => { x with live := .present, missed := 0 }).entryOf n := by
    unfold State.entryOf
    rw [State.heard_frame]; rfl
  rw [hheard, h, he]
  simp [State.station_of_entryOf he]

/-- R22: what the events of an answer leave of the state in which they are offered. -/
theorem State.entryOf_offerAll (s : State) (n : Nat) (station controls : Nat) (l : List RawEvent) :
    (s.offerAll station controls l).entryOf n = s.entryOf n := by
  rw [State.offerAll_eq]; rfl

/-- R8, R12: an answer with event records. -/
theorem validEvents_taken {s : State} {n : Nat} {e : RosterEntry} {frame : List Byte} {l : List RawEvent}
    (hphase : s.line.phase = .awaiting n) (he : s.entryOf n = some e) (hl : answerOf n frame = some (.events l)) :
    exec (.answerReceived { bytes := frame }) s = .next ((s.heard n).offerAll n e.controls l).nextVisit := by
  obtain rfl := State.station_of_entryOf he
  refine congrArg Host.Outcome.next ((State.answerReceived_awaiting hphase _).trans ?_)
  rw [State.judgeFrame_events he hl]; rfl

/-- R8, R12: an answer with event records and takes between them. -/
theorem validEvents_takes {s : State} {n : Nat} {e : RosterEntry} {frame : List Byte} {l : List RawEvent} (takes : List Nat)
    (hphase : s.line.phase = .awaiting n) (he : s.entryOf n = some e) (hl : answerOf n frame = some (.events l)) :
    exec (.answerReceived { bytes := frame, takes := takes }) s =
      .next ((s.heard n).takeEvents n e.controls takes l).nextVisit := by
  obtain rfl := State.station_of_entryOf he
  refine congrArg Host.Outcome.next ((State.answerReceived_awaiting hphase _).trans (congrArg State.nextVisit ?_))
  unfold State.judgeFrame State.judgeValid
  rw [hl, he]; rfl

/-- R23: the Route Resolver is as free after an answer is heard as before. -/
theorem State.heard_takesHead {s : State} (n : Nat) {x : EventRecord} {rest : List EventRecord} (h : s.TakesHead x rest) :
    (s.heard n).TakesHead x rest := by
  obtain ⟨hp, hheld, hrecall, hintake⟩ := h
  rw [State.heard_frame]
  refine ⟨hp, ?_, hrecall, hintake⟩
  rw [List.any_eq_false] at hheld ⊢
  exact fun r hr => hheld r (List.mem_filter.mp hr).1

/-- R16, R197: the record of a valid discovery result, as the unrouted queue takes it. -/
theorem State.discovered_eq (n : Nat) (s : State) :
    s.discovered n =
      { s with
        mgmt :=
          { s.mgmt with
            unrouted :=
              if s.mgmt.settings.learn = false ∨ { station := n, control := 0, kind := .newStation } ∈ s.mgmt.unrouted then
                s.mgmt.unrouted
              else if s.mgmt.unrouted.length < 16 then
                s.mgmt.unrouted ++ [{ station := n, control := 0, kind := .newStation }]
              else s.mgmt.unrouted.tail ++ [{ station := n, control := 0, kind := .newStation }] } } := by
  unfold State.discovered State.offerUnrouted
  cases hlearn : s.mgmt.settings.learn with
  | false => simp
  | true =>
    by_cases hmem : { station := n, control := 0, kind := .newStation } ∈ s.mgmt.unrouted
    · simp [hmem]
    · by_cases hroom : s.mgmt.unrouted.length < 16 <;> simp [hmem, hroom, Config.unroutedMax]

/-- R16: a valid answer of a number without an entry. -/
theorem State.judgeFrame_unknown {s : State} {n : Nat} {frame : List Byte} {takes : List Nat} {a : Answer} (hno : s.entryOf n = none)
    (ha : answerOf n frame = some a) :
    s.judgeFrame n { bytes := frame, takes := takes } =
      if n = Config.serviceStation then s.serviceAnswer a else s.discovered n := by
  unfold State.judgeFrame State.judgeValid
  dsimp only
  rw [ha, hno]

/-- R9: a number without an entry counts no miss. -/
theorem State.judgeMiss_unknown {s : State} {n : Nat} (hno : s.entryOf n = none) : s.judgeMiss n = s := by
  unfold State.judgeMiss
  rw [hno]

/-- R8, R12, R22: everything that an answer with event records leaves behind. -/
theorem eventAnswer_taken {s : State} {n : Nat} {e : RosterEntry} (l : List RawEvent) (he : s.entryOf n = some e)
    (hintake : s.route.intake.length ≤ Config.intakeMax) :
    let good := l.filterMap (RawEvent.checked n e.controls)
    let room := Config.intakeMax - s.route.intake.length
    let t := ((s.heard n).offerAll n e.controls l).nextVisit
    (∃ x, t.entryOf n = some x ∧ x.live = .present ∧ x.missed = 0 ∧ x.controls = e.controls ∧ x.privilege = e.privilege) ∧
      t.absenceWaiting n = false ∧ t.route.intake = s.route.intake ++ good.take room ∧
      t.mgmt.flags = s.mgmt.flags ||| (if l.all fun r => (r.checked n e.controls).isSome then 0#16 else Flag.stationFrame.word) |||
        (if good.length ≤ room then 0#16 else Flag.intakeOverflow.word) ∧
      (∀ r ∈ good.drop room, r.kind = .press → NackSent n r.control t) ∧ t.line.lossDeclared = false ∧
      (s.part = .running → t.line.lossTimer = some s.mgmt.settings.lineLoss) := by
  have heq := (s.heard n).offerAll_eq n e.controls l
  have hframe := s.heard_frame n
  have hroute : (s.heard n).route = s.route := by rw [hframe]
  have hmgmt : (s.heard n).mgmt = s.mgmt := by rw [hframe]
  have hentry := State.entryOf_heard he
  have hroster : s.line.roster ≠ [] := List.ne_nil_of_mem (State.mem_of_entryOf he)
  have hhears : ∀ k < e.controls, (s.heard n).hears n k = true := fun k hk => by
    unfold State.hears
    rw [hentry]
    simpa using hk
  refine ⟨?_, ?_, ?_, ?_, fun r hr hp => ?_, ?_, fun hrun => ?_⟩
  · have hfound := ((s.heard n).offerAll n e.controls l).entryOf_nextVisit n
    rw [State.entryOf_offerAll, hentry] at hfound
    obtain ⟨x, hx, hxe⟩ := Option.map_eq_some_iff.mp hfound
    obtain ⟨-, hcontrols, hprivilege, hlive, hmissed, -⟩ := RosterEntry.mk.inj hxe
    exact ⟨x, hx, hlive, hmissed, hcontrols, hprivilege⟩
  · unfold State.absenceWaiting
    rw [State.nextVisit_claims, heq, hframe]
    simp
  · rw [State.nextVisit_route, State.intake_offerAll n e.controls l (by rw [hroute]; exact hintake), hroute]
  · rw [State.nextVisit_mgmt, State.flags_offerAll n e.controls l (by rw [hroute]; exact hintake), hroute, hmgmt]
  · exact State.nextVisit_nack
      (State.dropped_offerAll l (by rw [hroute]; exact hintake) hhears (by rw [hroute]; exact hr) hp)
  · rw [State.nextVisit_lossDeclared, heq, hframe]
  · rw [State.nextVisit_lossTimer, heq, hframe]
    exact if_pos ⟨hrun, hroster⟩

/-- R18, R166: what an answer with event records does to the circuits. -/
theorem eventAnswer_circuits (s : State) (n controls : Nat) (l : List RawEvent) :
    let t := ((s.heard n).offerAll n controls l).nextVisit
    (s.line.lossDeclared = true → LossEnded s t) ∧
      (s.line.lossDeclared = false → ∀ c : Circuit, t.circ c = s.circ c ∧ t.eng c = s.eng c) ∧
      ∀ c : Circuit, (t.circ c).claims = (s.circ c).claims ∧ (t.circ c).egress = (s.circ c).egress ∧
        (t.circ c).loss = if s.line.lossDeclared then none else (s.circ c).loss := by
  have heq := (s.heard n).offerAll_eq n controls l
  have hcirc : ∀ c, ((s.heard n).offerAll n controls l).nextVisit.circ c = (s.heard n).circ c := fun c => by
    unfold State.circ
    rw [State.nextVisit_claims, heq]
  have heng : ∀ c, ((s.heard n).offerAll n controls l).nextVisit.eng c = (s.heard n).eng c := fun c => by
    unfold State.eng
    rw [State.nextVisit_engine, heq]
  obtain ⟨hlost, hok⟩ := s.heard_circuits n
  dsimp only
  simp only [hcirc, heng]
  refine ⟨fun h => (hlost h).congr (fun _ => rfl) (fun _ => rfl) rfl rfl rfl hcirc heng, hok, fun c => ?_⟩
  cases h : s.line.lossDeclared with
  | true => exact (hlost h).slots c
  | false => rw [(hok h c).1]; exact ⟨rfl, rfl, rfl⟩

/-- Settles O22: the answer is heard, its contents are taken in order, and the next visit is chosen; the clauses read the result. -/
theorem validAnswerIsTaken : Obligations.ValidAnswerIsTaken := by
  refine ⟨fun station controls r => ⟨RawEvent.checked_none station controls r, fun e h => ?_⟩, fun s => ?_,
    fun s n e frame l hphase he hl hintake => ?_, fun s n e frame r1 r2 e1 e2 hphase he hl h1 h2 hp hheld hrecall hfull => ?_,
    fun s t c f e takes hphase he hc hf hexec => ?_, fun s n frame takes a hphase hno ha => ⟨fun hn => ?_, fun hn hev => ?_⟩⟩
  · obtain ⟨h1, h2, h3, h4, -⟩ := RawEvent.checked_some h
    exact ⟨h1, h2, h3, h4⟩
  · obtain ⟨hlost, hok⟩ := s.lineHeard_circuits
    refine ⟨?_, by rw [State.lineHeard_frame], ?_, hlost, hok⟩ <;> rw [State.lineHeard_eq]
  · obtain ⟨hentry, habsence, hqueue, hflags, hnack, hdeclared, htimer⟩ := eventAnswer_taken l he hintake
    obtain ⟨hlost, hok, hslots⟩ := eventAnswer_circuits s n e.controls l
    exact ⟨_, validEvents_taken hphase he hl, hentry, habsence, hqueue, hflags, hnack, hdeclared, htimer, hlost, hok, hslots⟩
  · obtain ⟨x, rest, hx⟩ := List.exists_cons_of_length_pos (l := s.route.intake) (by rw [hfull]; decide)
    have hheard := State.heard_takesHead n (s := s) ⟨hp, hheld, hrecall, hx⟩
    have hlen : rest.length + 1 = Config.intakeMax := by rw [← hfull, hx]; rfl
    have visited : ∀ u : State, u.flagSet .intakeOverflow = true → u.nextVisit.flagSet .intakeOverflow = true := fun u hu => by
      unfold State.flagSet
      rw [State.nextVisit_mgmt]; exact hu
    obtain ⟨hq1, hf1⟩ := State.takeEvents_first h1 h2 hheard hlen
    obtain ⟨hq2, hf2⟩ := State.takeEvents_second h1 h2 hheard hlen
    rw [hx]
    exact ⟨⟨_, validEvents_takes [1] hphase he hl, by rw [State.nextVisit_route]; exact hq1, visited _ hf1⟩,
      ⟨_, validEvents_takes [0, 1] hphase he hl, by rw [State.nextVisit_route]; exact hq2, visited _ hf2⟩⟩
  · have spells := requestForm_spells hc hf
    have hst := State.station_of_entryOf he
    have ht : (s.heard f.sender).takeRequest f.sender f.tag (State.serve c) = t :=
      Host.Outcome.next.inj ((exec_request hf _).symm.trans hexec)
    refine congrArg Host.Outcome.next ((State.answerReceived_awaiting hphase _).trans (congrArg State.nextVisit ?_))
    unfold State.judgeFrame State.judgeValid
    rw [answerOf_checkedRecord spells (requestForm_sender hc hf), he]
    show (s.heard e.station).handRecord e.station f.record = t
    rw [hst, State.handRecord_of_request spells, ht]
  · refine congrArg Host.Outcome.next ((State.answerReceived_awaiting hphase _).trans ?_)
    refine Eq.trans ?_ (State.answerTimeout_awaiting (by exact hphase)).symm
    rw [State.judgeFrame_unknown hno ha, if_neg hn, State.discovered_eq]
    exact congrArg State.nextVisit (State.judgeMiss_unknown (by exact hno)).symm
  · obtain ⟨l, rfl⟩ := hev
    refine congrArg Host.Outcome.next ((State.answerReceived_awaiting hphase _).trans ?_)
    rw [State.answerTimeout_awaiting hphase, State.judgeFrame_unknown hno ha, if_pos hn, State.judgeMiss_unknown hno]
    rfl

end Sys2Proof.Machine
end

section
/-! PROOFS. Replies to requests that change the roster, and the roster edits ENROL and DELETE (O25). -/

namespace Sys2Proof.Machine

/-! ### What a reply leaves (R14, R184) -/

section Complete
variable (s : State) (n : Nat) (r : Result) (p : List Byte)

@[simp] theorem State.complete_claims : (s.complete n r p).claims = s.claims := by rw [State.complete_eq]
@[simp] theorem State.complete_engine : (s.complete n r p).engine = s.engine := by rw [State.complete_eq]
@[simp] theorem State.complete_cues : (s.complete n r p).cues = s.cues := by rw [State.complete_eq]
@[simp] theorem State.complete_feedback : (s.complete n r p).feedback = s.feedback := by rw [State.complete_eq]
@[simp] theorem State.complete_flags : (s.complete n r p).mgmt.flags = s.mgmt.flags := by rw [State.complete_eq]
@[simp] theorem State.complete_restartSet : (s.complete n r p).mgmt.restartSet = s.mgmt.restartSet := by rw [State.complete_eq]
@[simp] theorem State.complete_lossDeclared : (s.complete n r p).line.lossDeclared = s.line.lossDeclared := by
  rw [State.complete_eq]
@[simp] theorem State.complete_lossTimer : (s.complete n r p).line.lossTimer = s.line.lossTimer := by rw [State.complete_eq]

theorem State.complete_roster_length : (s.complete n r p).line.roster.length = s.line.roster.length := by
  simpa [State.lawView] using congrArg (fun v => v.roster.length) (s.view_complete n r p).1

theorem State.complete_roster_nil : (s.complete n r p).line.roster = [] ↔ s.line.roster = [] := by
  rw [← List.length_eq_zero_iff, State.complete_roster_length, List.length_eq_zero_iff]

theorem State.entryOf_complete (m : Nat) :
    ((s.complete n r p).entryOf m).map RosterEntry.unslotted = (s.entryOf m).map RosterEntry.unslotted :=
  State.entryOf_unslotted (s.view_complete n r p).1 m

/-- R14: a reply goes into the slot of its own station. -/
theorem State.entryOf_complete_other {m : Nat} (h : m ≠ n) : (s.complete n r p).entryOf m = s.entryOf m := by
  unfold State.complete
  split
  · unfold State.putReply
    split
    · rw [State.entryOf_modifyEntry]
      · cases he : s.entryOf m with
        | none => rfl
        | some e => simp [State.station_of_entryOf he, h]
      · exact fun _ => rfl
    · split <;> rfl
  · rfl

/-- R184: the reply of a station with a request in progress, where the station has a slot. -/
theorem State.replyOf_complete {tag : Nat} (htag : s.tagOf n = some tag) (hslot : s.enrolled n = true ∨ n = Config.serviceStation) :
    (s.complete n r p).replyOf n = some { tag := tag, result := r, payload := p } ∧
      (s.complete n r p).mgmt.requests = s.mgmt.requests := by
  unfold State.complete
  rw [htag]
  dsimp only
  unfold State.putReply
  split
  · next he =>
    obtain ⟨e, hen⟩ := Option.isSome_iff_exists.mp he
    refine ⟨?_, rfl⟩
    unfold State.replyOf
    rw [State.entryOf_modifyEntry, hen]
    · simp [State.station_of_entryOf hen]
    · exact fun _ => rfl
  · next he =>
    have hnone : s.entryOf n = none := by simpa [State.enrolled] using he
    obtain rfl := hslot.resolve_left he
    refine ⟨?_, rfl⟩
    unfold State.replyOf
    have hslotted : State.entryOf Config.serviceStation
        { s with line := { s.line with serviceSlot := some { tag := tag, result := r, payload := p } } } = none := hnone
    rw [if_pos rfl, hslotted]
    rfl

/-- R14: the reply of a station that has no slot is discarded, and its request ends. -/
theorem State.tagOf_complete_gone (hno : s.entryOf n = none) (hn : n ≠ Config.serviceStation) :
    (s.complete n r p).tagOf n = none := by
  unfold State.complete
  split
  · unfold State.putReply
    rw [if_neg (by simp [State.enrolled, hno]), if_neg hn]
    simp [State.tagOf]
  · assumption

end Complete

/-- R182: the sender of a taken request has a reply slot. -/
theorem State.sender_of_takes {s : State} {sender : Nat} (h : s.takes sender = true) :
    s.enrolled sender = true ∨ sender = Config.serviceStation := by
  unfold State.takes State.mayManage at h
  simp only [Bool.and_eq_true, Bool.or_eq_true] at h
  obtain ⟨⟨-, hmay⟩, -⟩ := h
  refine hmay.symm.imp (fun he => ?_) (by simp)
  unfold State.enrolled
  cases hn : s.entryOf sender with
  | none => simp [hn] at he
  | some e => rfl

/-- R182: the request that a taken record begins holds its tag. -/
theorem State.tagOf_beginRequest {s : State} {sender tag : Nat} (h : s.takes sender = true) :
    (s.beginRequest sender tag).tagOf sender = some tag := by
  have hno : s.tagOf sender = none := by
    unfold State.takes at h
    simpa using (Bool.and_eq_true_iff.mp h).2
  unfold State.tagOf at hno ⊢
  rw [State.beginRequest_mgmt, List.find?_append, Option.map_eq_none_iff.mp hno]
  simp

/-! ### Arguments and refusals (R19, R20, R176) -/

/-- R182: a refusal at once changes nothing but the sender's reply. -/
theorem State.refused {s : State} {sender : Nat} (tag : Nat) (result : Result) (h : s.takes sender = true) :
    State.Answered sender tag result [] s s ((s.beginRequest sender tag).complete sender result []) :=
  State.answered_of_taken h rfl rfl rfl

/-- R176: a bad argument answers OUT_OF_RANGE, or BUSY where the store is BUSY and the order is so (log entry 9). -/
theorem State.rangeRefused {s : State} {sender : Nat} (tag : Nat) (h : s.takes sender = true) :
    let t := (s.beginRequest sender tag).complete sender (if s.rangeAnswered then .outOfRange else .busy) []
    (s.store.state = .idle → State.Answered sender tag .outOfRange [] s s t) ∧
      (State.Answered sender tag .outOfRange [] s s t ∨ State.Answered sender tag .busy [] s s t) := by
  dsimp only
  cases hr : s.rangeAnswered with
  | true => exact ⟨fun _ => State.refused tag _ h, .inl (State.refused tag _ h)⟩
  | false =>
    refine ⟨fun hidle => ?_, .inr (State.refused tag _ h)⟩
    simp [State.rangeAnswered, State.storeBusy, hidle] at hr

theorem enrolNumber_of {n : Nat} (h1 : 1 ≤ n) (h2 : n ≤ 249) : enrolNumber n = true := (enrolNumber_iff n).mpr ⟨h1, h2⟩

theorem enrolNumber_bad {n : Nat} (h : n = 0 ∨ 249 < n) : enrolNumber n = false := by
  rw [Bool.eq_false_iff, Ne, enrolNumber_iff]
  simp only [Config.stationMax]
  omega

/-! ### ENROL (R19) -/

/-- R19, R68, R17: what is stored of a station in the roster, before the reply. -/
structure EntryStored (station controls : Nat) (p : Privilege) (s t : State) : Prop where
  entry : ∃ x, t.entryOf station = some x ∧ x.controls = controls ∧ x.privilege = p ∧ x.live = .unknown ∧ x.missed = 0
  others : ∀ other, other ≠ station → t.entryOf other = s.entryOf other
  length : t.line.roster.length = s.line.roster.length + (if s.enrolled station = true then 0 else 1)
  absence : s.enrolled station = true → t.absenceWaiting station = false
  circuits : t.claims.circuits = s.claims.circuits
  cues : t.cues = s.cues
  confirmations : t.feedback.confirmations = s.feedback.confirmations
  requests : t.mgmt = s.mgmt
  timer : t.line.lossTimer =
    if s.line.roster = [] ∧ s.part = .running ∧ s.line.lossDeclared = false then some s.mgmt.settings.lineLoss
    else s.line.lossTimer

theorem State.replaceEntry_stores {s : State} {station : Nat} (controls : Nat) (p : Privilege) (h : s.enrolled station = true) :
    EntryStored station controls p s (s.replaceEntry station controls p) := by
  obtain ⟨e, he⟩ := Option.isSome_iff_exists.mp h
  have hentry : ∀ m, (s.replaceEntry station controls p).entryOf m = (s.entryOf m).map fun x =>
      if x.station = station then { x with controls := controls, privilege := p, live := .unknown, missed := 0 } else x := fun m =>
    s.entryOf_modifyEntry station m (fun x => { x with controls := controls, privilege := p, live := .unknown, missed := 0 })
      fun _ => rfl
  exact {
    entry := ⟨_, by rw [hentry, he]; exact congrArg some (if_pos (State.station_of_entryOf he)), rfl, rfl, rfl, rfl⟩
    others := fun m hm => by
      rw [hentry]
      cases hx : s.entryOf m with
      | none => rfl
      | some x => simp [State.station_of_entryOf hx, hm]
    length := by simp [State.replaceEntry, h]
    absence := fun _ => (State.absenceWaiting_withdrawAbsence _ station station).trans (by simp)
    circuits := rfl
    cues := rfl
    confirmations := rfl
    requests := rfl
    timer := (if_neg fun hnil => List.ne_nil_of_mem (State.mem_of_entryOf he) hnil.1).symm }

theorem State.insertEntry_stores {s : State} {station : Nat} (controls : Nat) (p : Privilege) (h : s.enrolled station = false) :
    EntryStored station controls p s (s.insertEntry station controls p) := by
  have hno : s.entryOf station = none := by simpa [State.enrolled] using h
  let e : RosterEntry :=
    { station := station, controls := controls, privilege := p, live := .unknown, missed := 0, slot := none }
  have hroster : (s.insertEntry station controls p).line.roster = insertStation e s.line.roster := by
    unfold State.insertEntry
    dsimp only
    split
    · rw [State.startLossTimer_eq]; rfl
    · rfl
  have hframe : (s.insertEntry station controls p).claims = s.claims ∧ (s.insertEntry station controls p).cues = s.cues ∧
      (s.insertEntry station controls p).feedback.confirmations = s.feedback.confirmations ∧
      (s.insertEntry station controls p).mgmt = s.mgmt := by
    unfold State.insertEntry
    dsimp only
    split
    · rw [State.startLossTimer_eq]; exact ⟨rfl, rfl, rfl, rfl⟩
    · exact ⟨rfl, rfl, rfl, rfl⟩
  obtain ⟨hclaims, hcues, hconf, hmgmt⟩ := hframe
  have hperm := insertStation_perm e s.line.roster
  exact {
    entry := by
      refine ⟨e, ?_, rfl, rfl, rfl, rfl⟩
      unfold State.entryOf
      rw [hroster]
      exact find?_insertStation_self e fun x hx => State.ne_of_entryOf_none hno hx
    others := fun m hm => by
      unfold State.entryOf
      rw [hroster]
      exact find?_insertStation_other e (Ne.symm hm) _
    length := by rw [hroster, hperm.length_eq, h]; rfl
    absence := fun he => by rw [h] at he; cases he
    circuits := by rw [hclaims]
    cues := hcues
    confirmations := hconf
    requests := hmgmt
    timer := by
      have hne : insertStation e s.line.roster ≠ [] := fun hnil => by
        have := hperm.length_eq
        rw [hnil] at this
        simp at this
      unfold State.insertEntry
      dsimp only
      cases hnil : s.line.roster with
      | nil =>
        rw [State.startLossTimer_eq]
        rw [hnil] at hne
        simp [hne, e]
      | cons x rest => simp }

/-- R19: the equation of an ENROL with good arguments and the store IDLE. -/
theorem State.reqEnrol_good {s : State} {station privilege : Nat} {p : Privilege} (sender controls : Nat)
    (hn : enrolNumber station = true) (hp : privilegeOf privilege = some p) (hidle : s.storeBusy = false) :
    s.reqEnrol sender station controls privilege = s.storeEntry sender station controls p := by
  unfold State.reqEnrol
  rw [hn, hp]
  exact if_neg (by simp [hidle])

theorem State.reqEnrol_busy {s : State} {station privilege : Nat} (sender controls : Nat)
    (hn : enrolNumber station = true) (hp : (privilegeOf privilege).isSome = true) (hbusy : s.storeBusy = true) :
    s.reqEnrol sender station controls privilege = s.complete sender .busy [] := by
  obtain ⟨p, hp⟩ := Option.isSome_iff_exists.mp hp
  unfold State.reqEnrol
  rw [hn, hp]
  exact if_pos hbusy

theorem State.reqEnrol_bad {s : State} {station privilege : Nat} (sender controls : Nat)
    (h : enrolNumber station = false ∨ privilegeOf privilege = none) :
    s.reqEnrol sender station controls privilege = s.complete sender (if s.rangeAnswered then .outOfRange else .busy) [] := by
  unfold State.reqEnrol
  split
  · next hn hp => rw [hn, hp] at h; simp at h
  · rfl

/-- R19: what an ENROL with good arguments and room leaves. -/
theorem State.storeEntry_stores {s : State} {station : Nat} (sender controls : Nat) (p : Privilege)
    (hroom : s.enrolled station = true ∨ s.line.roster.length < 120) :
    ∃ u, EntryStored station (clamp 1 32 controls) p s u ∧
      s.storeEntry sender station controls p = u.complete sender (doneOr (clamp 1 32 controls != controls)) [] := by
  unfold State.storeEntry
  dsimp only
  cases he : s.enrolled station with
  | true => exact ⟨_, State.replaceEntry_stores _ p he, if_pos rfl⟩
  | false =>
    have hlen := hroom.resolve_left (by simp [he])
    exact ⟨_, State.insertEntry_stores _ p he, (if_neg (by simp)).trans (if_pos hlen)⟩

theorem State.storeEntry_full {s : State} {station : Nat} (sender controls : Nat) (p : Privilege) (hno : s.enrolled station = false)
    (hfull : 120 ≤ s.line.roster.length) : s.storeEntry sender station controls p = s.complete sender .noSpace [] := by
  unfold State.storeEntry
  dsimp only
  rw [if_neg (by simp [hno])]
  exact if_neg (not_lt_of_ge hfull)

theorem doneOr_clamp (controls : Nat) :
    doneOr (clamp 1 32 controls != controls) = if 1 ≤ controls ∧ controls ≤ 32 then .done else .adjusted := by
  unfold doneOr clamp
  by_cases h : 1 ≤ controls ∧ controls ≤ 32
  · rw [if_pos h, if_neg (by simp; omega)]
  · rw [if_neg h, if_pos (by simp; omega)]

/-- R184: the reply after an entry is stored. -/
theorem EntryStored.replied {station controls sender tag : Nat} {p : Privilege} {s u : State} (ht : s.takes sender = true)
    (h : EntryStored station controls p (s.beginRequest sender tag) u) (result : Result) :
    (u.complete sender result []).replyOf sender = some { tag := tag, result := result, payload := [] } := by
  have htag : u.tagOf sender = some tag := by
    rw [← State.tagOf_beginRequest (tag := tag) ht]
    unfold State.tagOf
    rw [h.requests]
  refine (u.replyOf_complete sender result [] htag ?_).1
  refine (State.sender_of_takes ht).imp_left fun hs => ?_
  by_cases hm : sender = station
  · obtain ⟨x, hx, -⟩ := h.entry
    rw [hm]
    simp [State.enrolled, hx]
  · unfold State.enrolled
    rw [h.others sender hm]
    exact hs

/-! ### DELETE (R20) -/

/-- R20: the roster edit of a DELETE before the roster is looked at for being empty. -/
def State.strikeEntry (station : Nat) (e : RosterEntry) (s : State) : State :=
  let removed := s.setRoster (s.line.roster.filter (·.station != station))
  let unread := (removed.withdrawAbsence station).discardReply station e
  ((unread.setPendings (unread.cues.pendings.filter (·.station != station))).dropFeedback station).requestRemoval station

theorem State.removeEntry_eq (s : State) (n : Nat) (e : RosterEntry) : s.removeEntry n e = (s.strikeEntry n e).rosterEmptied := rfl

/-- R20: the blocks after the entry of a station is struck. -/
theorem State.strikeEntry_frame (s : State) (n : Nat) (e : RosterEntry) :
    s.strikeEntry n e =
      { s with
        line := { s.line with roster := s.line.roster.filter (·.station != n) }
        claims := { s.claims with order := (s.strikeEntry n e).claims.order }
        cues := { s.cues with pendings := s.cues.pendings.filter (·.station != n) }
        feedback :=
          { shots := s.feedback.shots.filter (·.station != n)
            confirmations := s.feedback.confirmations.filter (·.station != n) }
        mgmt :=
          { s.mgmt with
            requests := if e.slot.isSome then s.mgmt.requests.filter (·.station != n) else s.mgmt.requests
            restartSet := if e.slot.isSome then s.mgmt.restartSet.filter (· != n) else s.mgmt.restartSet } } := by
  unfold State.strikeEntry State.requestRemoval State.discardReply
  dsimp only
  cases e.slot <;> (dsimp only; split <;> rfl)

/-- R20, R68: the removal of the station's claims waits, and its absence request does not. -/
theorem State.strikeEntry_order (s : State) (n : Nat) (e : RosterEntry) :
    (s.strikeEntry n e).claims.order.contains (.removal n) = true ∧ (s.strikeEntry n e).absenceWaiting n = false := by
  have key : ∀ u : State, u.absenceWaiting n = false →
      (u.requestRemoval n).claims.order.contains (.removal n) = true ∧ (u.requestRemoval n).absenceWaiting n = false := by
    intro u hu
    unfold State.requestRemoval
    split
    · next h => exact ⟨h, hu⟩
    · exact ⟨by simp, by rw [State.absenceWaiting_request, hu]; simp⟩
  refine key _ ?_
  have hwithdrawn : ((s.setRoster (s.line.roster.filter (·.station != n))).withdrawAbsence n).absenceWaiting n = false :=
    (State.absenceWaiting_withdrawAbsence _ n n).trans (by simp)
  unfold State.discardReply
  cases e.slot <;> exact hwithdrawn

/-- R17, R18: an emptied roster touches the declaration, the timer and the circuits alone. -/
theorem State.rosterEmptied_frame (s : State) :
    s.rosterEmptied =
      { s with
        line := { s.line with
          lossDeclared := if s.line.roster = [] then false else s.line.lossDeclared
          lossTimer := if s.line.roster = [] then none else s.line.lossTimer }
        claims := { s.claims with circuits := s.rosterEmptied.claims.circuits }
        engine := { s.engine with circuits := s.rosterEmptied.engine.circuits } } := by
  by_cases hnil : s.line.roster = []
  · have hstop : s.rosterEmptied =
        if s.line.lossDeclared then State.declareOk { s with line := { s.line with lossTimer := none } }
        else { s with line := { s.line with lossTimer := none } } := if_pos (by simp [hnil])
    rw [if_pos hnil, if_pos hnil]
    cases hlost : s.line.lossDeclared with
    | true => rw [hstop, if_pos hlost]; rfl
    | false => rw [hstop, if_neg (by simp [hlost]), ← hlost]
  · have hsame : s.rosterEmptied = s := if_neg (by simpa using hnil)
    rw [if_neg hnil, if_neg hnil, hsame]

/-- R18, R20: an emptied roster ends a declared line loss; otherwise no circuit is touched. -/
theorem State.rosterEmptied_circuits (s : State) :
    (s.line.roster = [] → s.line.lossDeclared = true → LossEnded s s.rosterEmptied) ∧
    (s.line.roster ≠ [] ∨ s.line.lossDeclared = false → ∀ c : Circuit, s.rosterEmptied.circ c = s.circ c ∧
      s.rosterEmptied.eng c = s.eng c) := by
  unfold State.rosterEmptied
  constructor
  · intro hnil hlost
    rw [if_pos (by simp [hnil])]
    dsimp only
    rw [if_pos hlost]
    exact (State.declareOk_ends _).congr (fun _ => rfl) (fun _ => rfl) rfl rfl rfl (fun _ => rfl) fun _ => rfl
  · rintro (hne | hok) c
    · rw [if_neg (by simpa using hne)]
      exact ⟨rfl, rfl⟩
    · split
      · dsimp only
        rw [if_neg (by simp [hok])]
        exact ⟨rfl, rfl⟩
      · exact ⟨rfl, rfl⟩

/-- R20, R17, R18: everything that goes with a roster entry, before the reply. -/
structure EntryRemoved (station : Nat) (e : RosterEntry) (s t : State) : Prop where
  roster : t.line.roster = s.line.roster.filter (·.station != station)
  absence : t.absenceWaiting station = false
  removal : t.claims.order.contains (.removal station) = true
  cues : t.cues = { s.cues with pendings := s.cues.pendings.filter (·.station != station) }
  feedback : t.feedback =
    { shots := s.feedback.shots.filter (·.station != station)
      confirmations := s.feedback.confirmations.filter (·.station != station) }
  mgmt : t.mgmt =
    { s.mgmt with
      requests := if e.slot.isSome then s.mgmt.requests.filter (·.station != station) else s.mgmt.requests
      restartSet := if e.slot.isSome then s.mgmt.restartSet.filter (· != station) else s.mgmt.restartSet }
  emptied : t.line.roster = [] → t.line.lossDeclared = false ∧ t.line.lossTimer = none
  manned : t.line.roster ≠ [] → t.line.lossDeclared = s.line.lossDeclared ∧ t.line.lossTimer = s.line.lossTimer
  ended : t.line.roster = [] → s.line.lossDeclared = true → LossEnded s t
  kept : t.line.roster ≠ [] ∨ s.line.lossDeclared = false → ∀ c : Circuit, t.circ c = s.circ c ∧ t.eng c = s.eng c

theorem State.removeEntry_removes (s : State) (n : Nat) (e : RosterEntry) : EntryRemoved n e s (s.removeEntry n e) := by
  have hstrike := s.strikeEntry_frame n e
  have hempty := (s.strikeEntry n e).rosterEmptied_frame
  rw [← State.removeEntry_eq] at hempty
  have hroster : (s.strikeEntry n e).line.roster = s.line.roster.filter (·.station != n) := by rw [hstrike]
  have hsame : (s.removeEntry n e).line.roster = (s.strikeEntry n e).line.roster := by rw [hempty]
  obtain ⟨hended, hkept⟩ := (s.strikeEntry n e).rosterEmptied_circuits
  obtain ⟨horder, habsence⟩ := s.strikeEntry_order n e
  have hdeclared : (s.strikeEntry n e).line.lossDeclared = s.line.lossDeclared := by rw [hstrike]
  have htimer : (s.strikeEntry n e).line.lossTimer = s.line.lossTimer := by rw [hstrike]
  have hcirc : ∀ c, s.circ c = (s.strikeEntry n e).circ c := fun c => by rw [hstrike]; rfl
  have heng : ∀ c, s.eng c = (s.strikeEntry n e).eng c := fun c => by rw [hstrike]; rfl
  exact {
    roster := hsame.trans hroster
    absence := by
      unfold State.absenceWaiting at habsence ⊢
      rw [hempty]; exact habsence
    removal := by rw [hempty]; exact horder
    cues := by rw [hempty, hstrike]
    feedback := by rw [hempty, hstrike]
    mgmt := by rw [hempty, hstrike]
    emptied := fun h => by
      rw [hsame] at h
      rw [hempty]
      exact ⟨if_pos h, if_pos h⟩
    manned := fun h => by
      rw [hsame] at h
      rw [hempty]
      exact ⟨(if_neg h).trans hdeclared, (if_neg h).trans htimer⟩
    ended := fun h hl => by
      rw [hsame] at h
      exact (hended h (hdeclared.trans hl)).congr hcirc heng (by rw [hstrike]) (by rw [hstrike]) (by rw [hstrike])
        (fun _ => rfl) fun _ => rfl
    kept := fun h c => by
      rw [hsame, ← hdeclared] at h
      rw [hcirc, heng]
      exact hkept h c }

namespace EntryRemoved
variable {n sender tag : Nat} {e : RosterEntry} {s u : State}

theorem entryOf (h : EntryRemoved n e s u) (m : Nat) : u.entryOf m = if m = n then none else s.entryOf m := by
  rw [← State.entryOf_filter]
  unfold State.entryOf
  rw [h.roster]; rfl

/-- R166: the claims of a circuit are no part of a safety write. -/
theorem claims (h : EntryRemoved n e s u) (c : Circuit) : (u.circ c).claims = (s.circ c).claims := by
  by_cases hcase : u.line.roster ≠ [] ∨ s.line.lossDeclared = false
  · rw [(h.kept hcase c).1]
  · rw [not_or, not_not, Bool.not_eq_false] at hcase
    exact ((h.ended hcase.1 hcase.2).slots c).1

/-- R20, R184: the sender of a DELETE of another station is answered, and the request of that station whose reply waited has ended. -/
theorem replied (ht : s.takes sender = true) (h : EntryRemoved n e (s.beginRequest sender tag) u) (hne : sender ≠ n)
    (result : Result) :
    (u.complete sender result []).replyOf sender = some { tag := tag, result := result, payload := [] } ∧
      (e.slot.isSome = true → (u.complete sender result []).tagOf n = none) := by
  have htag : u.tagOf sender = some tag := by
    have hbegun := State.tagOf_beginRequest (tag := tag) ht
    unfold State.tagOf at hbegun ⊢
    rw [h.mgmt]
    dsimp only
    split
    · rw [List.find?_filter, ← hbegun]
      congr 2
      funext x
      by_cases hx : x.station = sender <;> simp [hx, hne]
    · exact hbegun
  have hslot : u.enrolled sender = true ∨ sender = Config.serviceStation := by
    refine (State.sender_of_takes ht).imp_left fun hs => ?_
    unfold State.enrolled
    rw [h.entryOf, if_neg hne]
    exact hs
  obtain ⟨hreply, hrequests⟩ := u.replyOf_complete sender result [] htag hslot
  refine ⟨hreply, fun he => ?_⟩
  unfold State.tagOf
  rw [hrequests, h.mgmt]
  simp [he]

end EntryRemoved

theorem State.reqDelete_good {s : State} {station : Nat} {e : RosterEntry} (sender : Nat) (hn : enrolNumber station = true)
    (hidle : s.storeBusy = false) (he : s.entryOf station = some e) :
    s.reqDelete sender station = (s.removeEntry station e).complete sender .done [] := by
  unfold State.reqDelete
  rw [if_pos hn, if_neg (by simp [hidle]), he]

theorem State.reqDelete_unknown {s : State} {station : Nat} (sender : Nat) (hn : enrolNumber station = true)
    (hidle : s.storeBusy = false) (he : s.entryOf station = none) :
    s.reqDelete sender station = s.complete sender .done [] := by
  unfold State.reqDelete
  rw [if_pos hn, if_neg (by simp [hidle]), he]

theorem State.reqDelete_busy {s : State} {station : Nat} (sender : Nat) (hn : enrolNumber station = true)
    (hbusy : s.storeBusy = true) : s.reqDelete sender station = s.complete sender .busy [] := by
  unfold State.reqDelete
  rw [if_pos hn, if_pos hbusy]

theorem State.reqDelete_bad {s : State} {station : Nat} (sender : Nat) (hn : enrolNumber station = false) :
    s.reqDelete sender station = s.complete sender (if s.rangeAnswered then .outOfRange else .busy) [] := by
  unfold State.reqDelete
  exact if_neg (by simp [hn])

/-- R20: what a DELETE of an enrolled station leaves, with the reply. -/
theorem deleteEntry_answered {s : State} {sender station : Nat} {e : RosterEntry} (tag : Nat) (ht : s.takes sender = true)
    (hmax : station ≤ 249) :
    let t := ((s.beginRequest sender tag).removeEntry station e).complete sender .done []
    t.entryOf station = none ∧ t.absenceWaiting station = false ∧ t.claims.order.contains (.removal station) = true ∧
      (∀ other, other ≠ station → other ≠ sender → t.entryOf other = s.entryOf other) ∧
      t.cues = { s.cues with pendings := s.cues.pendings.filter (·.station != station) } ∧
      t.feedback =
        { shots := s.feedback.shots.filter (·.station != station)
          confirmations := s.feedback.confirmations.filter (·.station != station) } ∧
      (∀ c : Circuit, (t.circ c).claims = (s.circ c).claims) ∧
      t.mgmt.restartSet = (if e.slot.isSome then s.mgmt.restartSet.filter (· != station) else s.mgmt.restartSet) ∧
      (sender ≠ station → t.replyOf sender = some { tag := tag, result := .done, payload := [] } ∧
        (e.slot.isSome = true → t.tagOf station = none)) ∧
      (sender = station → t.tagOf sender = none) ∧
      (t.line.roster = [] → t.line.lossDeclared = false ∧ t.line.lossTimer = none) ∧
      (t.line.roster ≠ [] → t.line.lossDeclared = s.line.lossDeclared ∧ t.line.lossTimer = s.line.lossTimer) ∧
      t.mgmt.flags = s.mgmt.flags ∧
      (t.line.roster = [] → s.line.lossDeclared = true → LossEnded s t) ∧
      (t.line.roster ≠ [] ∨ s.line.lossDeclared = false → ∀ c : Circuit, t.circ c = s.circ c ∧ t.eng c = s.eng c) := by
  have h := (s.beginRequest sender tag).removeEntry_removes station e
  generalize (s.beginRequest sender tag).removeEntry station e = u at h ⊢
  have hgone : u.entryOf station = none := by rw [h.entryOf]; exact if_pos rfl
  have hcirc : ∀ c, (u.complete sender .done []).circ c = u.circ c := fun c => by unfold State.circ; rw [State.complete_claims]
  have heng : ∀ c, (u.complete sender .done []).eng c = u.eng c := fun c => by unfold State.eng; rw [State.complete_engine]
  dsimp only
  simp only [ne_eq, State.complete_roster_nil, State.complete_lossDeclared, State.complete_lossTimer, State.complete_cues,
    State.complete_feedback, State.complete_restartSet, State.complete_flags, State.complete_claims, hcirc, heng]
  refine ⟨?_, ?_, h.removal, fun m hm hs => ?_, h.cues, h.feedback, h.claims, ?_, fun hne => h.replied ht hne _, fun heq => ?_,
    h.emptied, h.manned, ?_, fun hnil hlost => ?_, h.kept⟩
  · have := u.entryOf_complete sender .done [] station
    rw [hgone] at this
    exact Option.map_eq_none_iff.mp this
  · unfold State.absenceWaiting
    rw [State.complete_claims]
    exact h.absence
  · rw [State.entryOf_complete_other _ _ _ _ hs, h.entryOf, if_neg hm]; rfl
  · rw [h.mgmt]; rfl
  · subst heq
    exact u.tagOf_complete_gone sender .done [] hgone (by simp only [Config.serviceStation]; omega)
  · rw [h.mgmt]; rfl
  · exact (h.ended hnil hlost).congr (fun _ => rfl) (fun _ => rfl) rfl rfl rfl hcirc heng

/-- R19: what an ENROL with good arguments and room leaves, with the reply. -/
theorem enrolEntry_answered {s : State} {sender station : Nat} (tag controls : Nat) (p : Privilege) (ht : s.takes sender = true)
    (hroom : s.enrolled station = true ∨ s.line.roster.length < 120) :
    let t := (s.beginRequest sender tag).storeEntry sender station controls p
    (∃ x, t.entryOf station = some x ∧ x.controls = max 1 (min 32 controls) ∧ x.privilege = p ∧ x.live = .unknown ∧
        x.missed = 0) ∧
      (s.enrolled station = true → t.absenceWaiting station = false) ∧
      (∀ other, other ≠ station → other ≠ sender → t.entryOf other = s.entryOf other) ∧
      t.line.roster.length = s.line.roster.length + (if s.enrolled station = true then 0 else 1) ∧
      t.replyOf sender =
        some { tag := tag, result := if 1 ≤ controls ∧ controls ≤ 32 then .done else .adjusted, payload := [] } ∧
      t.claims.circuits = s.claims.circuits ∧ t.cues = s.cues ∧ t.feedback.confirmations = s.feedback.confirmations ∧
      t.line.lossTimer =
        if s.line.roster = [] ∧ s.part = .running ∧ s.line.lossDeclared = false then some s.mgmt.settings.lineLoss
        else s.line.lossTimer := by
  obtain ⟨u, h, heq⟩ := (s.beginRequest sender tag).storeEntry_stores sender controls p (station := station) hroom
  dsimp only
  rw [heq, doneOr_clamp]
  simp only [State.complete_roster_length, State.complete_lossTimer, State.complete_cues, State.complete_feedback,
    State.complete_claims]
  refine ⟨?_, fun hs => ?_, fun m hm hs => ?_, h.length, h.replied ht _, h.circuits, h.cues, h.confirmations, h.timer⟩
  · obtain ⟨x, hx, hcontrols, hprivilege, hlive, hmissed⟩ := h.entry
    have hfound := u.entryOf_complete sender (if 1 ≤ controls ∧ controls ≤ 32 then .done else .adjusted) [] station
    rw [hx] at hfound
    obtain ⟨y, hy, hyx⟩ := Option.map_eq_some_iff.mp hfound
    obtain ⟨-, kcontrols, kprivilege, klive, kmissed, -⟩ := RosterEntry.mk.inj hyx
    exact ⟨y, hy, kcontrols.trans hcontrols, kprivilege.trans hprivilege, klive.trans hlive, kmissed.trans hmissed⟩
  · unfold State.absenceWaiting
    rw [State.complete_claims]
    exact h.absence hs
  · rw [State.entryOf_complete_other _ _ _ _ hs, h.others m hm]; rfl

theorem exec_enrol {s : State} {sender : Nat} (tag station controls privilege : Nat) (ht : s.takes sender = true) :
    exec (.enrol sender tag station controls privilege) s =
      .next ((s.beginRequest sender tag).reqEnrol sender station controls privilege) := by
  have taken : exec (.enrol sender tag station controls privilege) s =
      .next (s.takeRequest sender tag (State.reqEnrol sender station controls privilege)) := rfl
  rw [taken, State.takeRequest_of_taken ht]

theorem exec_delete {s : State} {sender : Nat} (tag station : Nat) (ht : s.takes sender = true) :
    exec (.delete sender tag station) s = .next ((s.beginRequest sender tag).reqDelete sender station) := by
  have taken : exec (.delete sender tag station) s = .next (s.takeRequest sender tag (State.reqDelete sender station)) := rfl
  rw [taken, State.takeRequest_of_taken ht]

/-- Settles O25: the arguments and the store decide the refusals; a good edit is the stored or removed entry, then the reply. -/
theorem rosterEditsAreStored : Obligations.RosterEditsAreStored := by
  have idle : ∀ {s : State} {sender tag : Nat}, s.store.state = .idle → (s.beginRequest sender tag).storeBusy = false := fun h => by
    simp [State.storeBusy, h]
  have busy : ∀ {s : State} {sender tag : Nat}, s.store.state ≠ .idle → (s.beginRequest sender tag).storeBusy = true := fun h => by
    simpa [State.storeBusy] using h
  refine ⟨fun s sender tag station controls privilege ht =>
      ⟨_, exec_enrol tag station controls privilege ht, fun p hi h1 h2 hp hroom => ?_, fun p hi h1 h2 hp hno hfull => ?_,
        fun hbad => ?_, fun hb h1 h2 hp => ?_⟩,
    fun s sender tag station ht =>
      ⟨_, exec_delete tag station ht, fun hbad => ?_, fun hb h1 h2 => ?_, fun hi h1 h2 he => ?_, fun e hi h1 h2 he => ?_⟩⟩
  · rw [State.reqEnrol_good sender controls (enrolNumber_of h1 h2) hp (idle hi)]
    exact enrolEntry_answered tag controls p ht hroom
  · rw [State.reqEnrol_good sender controls (enrolNumber_of h1 h2) hp (idle hi),
      State.storeEntry_full (s := s.beginRequest sender tag) sender controls p hno hfull]
    exact State.refused tag _ ht
  · rw [State.reqEnrol_bad sender controls (or_assoc.mpr hbad |>.imp_left enrolNumber_bad)]
    exact State.rangeRefused tag ht
  · rw [State.reqEnrol_busy sender controls (enrolNumber_of h1 h2) hp (busy hb)]
    exact State.refused tag _ ht
  · rw [State.reqDelete_bad sender (enrolNumber_bad hbad)]
    exact State.rangeRefused tag ht
  · rw [State.reqDelete_busy sender (enrolNumber_of h1 h2) (busy hb)]
    exact State.refused tag _ ht
  · rw [State.reqDelete_unknown (s := s.beginRequest sender tag) sender (enrolNumber_of h1 h2) (idle hi) he]
    exact State.refused tag _ ht
  · rw [State.reqDelete_good (s := s.beginRequest sender tag) sender (enrolNumber_of h1 h2) (idle hi) he]
    exact deleteEntry_answered tag ht h2

end Sys2Proof.Machine
end

section
/-! PROOFS. The end of loading (O20): the state that each entry leads to, block by block. -/

namespace Sys2Proof.Machine

/-! ### The first LEVEL frame (R132, R136) -/

theorem segmentOf_eq_zero (c : Circuit) : segmentOf c = 0 ↔ c.val < 128 := by
  unfold segmentOf
  rw [Fin.ext_iff]
  show c.val / 128 = 0 ↔ _
  omega

/-- R130: the circuits of segment 0, in ascending order. -/
theorem filter_segment_zero :
    (allCircuits.filter fun c => segmentOf c == 0) = (List.finRange 128).map (Fin.castLE (by decide : 128 ≤ 512)) := by
  refine (allCircuits_sorted.filter _).eq_of_mem_iff (List.pairwise_map.mpr ?_) fun c => ?_
  · exact (List.pairwise_lt_finRange 128).imp fun h => h
  · rw [List.mem_filter, beq_iff_eq, segmentOf_eq_zero, List.mem_map]
    constructor
    · rintro ⟨-, h⟩
      exact ⟨⟨c.val, h⟩, List.mem_finRange _, rfl⟩
    · rintro ⟨i, -, rfl⟩
      exact ⟨mem_allCircuits _, i.isLt⟩

theorem State.segmentCodes_zero (s : State) :
    (s.segmentCodes 0).length = 128 ∧
      ∀ c : Circuit, segmentOf c = 0 → (s.segmentCodes 0)[c.val % 128]? = some (BitVec.ofNat 16 (s.eng c).code) := by
  unfold State.segmentCodes
  rw [filter_segment_zero]
  refine ⟨by simp, fun c hc => ?_⟩
  have hlt := (segmentOf_eq_zero c).mp hc
  have hfound : (List.finRange 128)[c.val]? = some ⟨c.val, hlt⟩ := by
    rw [List.getElem?_eq_getElem (by simpa using hlt), List.getElem_finRange]
    rfl
  rw [Nat.mod_eq_of_lt hlt, List.getElem?_map, List.getElem?_map, hfound]
  rfl

/-! ### The parts of the entry -/

/-- R161: the EGRESS sample touches the circuits alone. -/
theorem State.egressSample_frame (s : State) :
    s.egressSample =
      { s with
        claims := { s.claims with circuits := s.egressSample.claims.circuits }
        engine := { s.engine with circuits := s.egressSample.engine.circuits } } := by
  unfold State.egressSample
  split <;> rfl

/-- R162: a sample writes the flagged circuits of an asserted input alone, and keeps their attributes. -/
theorem State.egressSample_circuit (s : State) (c : Circuit) :
    (s.egressSample.eng c).attr = (s.eng c).attr ∧
      ((s.eng c).attr.egress = false → s.egressSample.circ c = s.circ c ∧ s.egressSample.eng c = s.eng c) ∧
      ((s.egressSample.circ c).egress = none → s.egressSample.eng c = s.eng c) := by
  unfold State.egressSample
  split
  · cases hf : (s.eng c).attr.egress with
    | false =>
      obtain ⟨hcirc, heng⟩ := State.egressWrite_unflagged hf
      exact ⟨by rw [heng], fun _ => ⟨hcirc, heng⟩, fun _ => heng⟩
    | true =>
      obtain ⟨hcirc, heng⟩ := State.egressWrite_flagged hf
      refine ⟨?_, fun h => by simp at h, fun h => by rw [hcirc] at h; cases h⟩
      rw [heng]
      split
      · rfl
      · exact EngineCircuit.published_attr _ _ _
  · exact ⟨rfl, fun _ => ⟨rfl, rfl⟩, fun _ => rfl⟩

/-- R149, R174: the sample and the start of the schedule do not read each other's blocks. -/
theorem State.scheduleAndSample_eq (s : State) (b : Bool) :
    s.scheduleAndSample b =
      s.egressSample.withLoop (if b then s.startSchedule.transmitStart.loop else s.loop.levelDue 0) := by
  have sampled : ∀ l : LoopBlock, (s.withLoop l).egressSample = s.egressSample.withLoop l := fun l => by
    unfold State.egressSample
    show (if s.claims.egressAsserted then _ else _) = State.withLoop l (if s.claims.egressAsserted then _ else _)
    split <;> rfl
  cases b with
  | false =>
    show s.egressSample.withLoop (s.egressSample.loop.levelDue 0) = _
    rw [show s.egressSample.loop = s.loop by rw [State.egressSample_frame]]
    rfl
  | true =>
    have started : ∃ l, s.startSchedule.transmitStart = s.withLoop l := by
      unfold State.transmitStart
      split
      · exact ⟨_, rfl⟩
      · split <;> exact ⟨_, rfl⟩
    obtain ⟨l, hl⟩ := started
    show s.startSchedule.transmitStart.egressSample = s.egressSample.withLoop s.startSchedule.transmitStart.loop
    rw [hl, sampled]; rfl

theorem State.powerOnRecall_eq (s : State) :
    s.powerOnRecall =
      { s with
        claims :=
          { s.claims with
            order := s.claims.order ++
              match s.mgmt.settings.powerOnScene with
              | some n => [.recall n none]
              | none => [] } } := by
  unfold State.powerOnRecall
  cases s.mgmt.settings.powerOnScene with
  | some n => rfl
  | none => simp

/-- R3, R14: a visit touches the line block and the one-shots alone. -/
theorem State.visitFrom_frame (k : Nat) (s : State) :
    s.visitFrom k =
      { s with
        line := { (s.visitFrom k).line with lossDeclared := s.line.lossDeclared, lossTimer := s.line.lossTimer }
        feedback := (s.visitFrom k).feedback } := by
  unfold State.visitFrom
  split <;> rfl

/-- R3, R14: the first visit after loading: no entry holds a reply. -/
theorem State.visitFrom_loaded {s : State} (hcount : s.line.cycleCount = 0) (hslot : s.line.serviceSlot = none)
    (hroster : ∀ e ∈ s.line.roster, 1 ≤ e.station ∧ e.slot = none) :
    (s.visitFrom 0).line.roster = s.line.roster ∧
      ∃ p, (s.visitFrom 0).line.phase = .sending p ∧ p.reply = none ∧
        p.station = match s.line.roster with | e :: _ => e.station | [] => Config.serviceStation := by
  unfold State.visitFrom
  cases hr : s.line.roster with
  | nil =>
    have hnext : s.line.nextEntry 0 = none := by
      unfold LineBlock.nextEntry
      rw [hr]; rfl
    rw [hnext]
    exact ⟨hr, _, rfl, hslot, rfl⟩
  | cons e rest =>
    obtain ⟨hstation, hnone⟩ := hroster e (by rw [hr]; exact List.mem_cons_self)
    have hnext : s.line.nextEntry 0 = some e := by
      unfold LineBlock.nextEntry
      rw [hr]
      exact List.find?_cons_of_pos (by simp [RosterEntry.qualifies, hcount, Nat.lt_of_succ_le hstation])
    rw [hnext]
    refine ⟨?_, _, rfl, hnone, rfl⟩
    show (s.line.roster.map fun x => if x.station = e.station then { x with slot := none } else x) = _
    rw [← hr]
    refine (List.map_congr_left fun x hx => ?_).trans (List.map_id _)
    obtain ⟨-, hx⟩ := hroster x hx
    by_cases h : x.station = e.station
    · rw [if_pos h, ← hx]; rfl
    · rw [if_neg h]; rfl

/-! ### The tables in place (R129, R173) -/

/-- R173: the tables of a state are those installed where the circuits keep their attributes. -/
theorem State.tables_of {T : Tables} {t : State} (hsettings : t.mgmt.settings = T.settings) (hroster : t.line.roster = T.roster)
    (hwindows : t.route.windows = T.windows) (hgroups : t.route.groups = T.groups) (hscenes : t.player.scenes = T.scenes)
    (hattrs : ∀ c : Circuit, (t.eng c).attr = T.attrs[c]) : t.tables = T := by
  have hmap : mapTable (fun _ e => e.attr) t.engine.circuits = T.attrs :=
    table_ext fun c => (getElem_mapTable _ _ c).trans (hattrs c)
  unfold State.tables
  rw [hsettings, hroster, hwindows, hgroups, hscenes, hmap]

theorem State.install_eng (s : State) (part : Part) (T : Tables) (valid : Bool) (x : Contacts) (c : Circuit) :
    (s.install part T valid x).eng c = .atEntry T.attrs[c] := getElem_mapTable _ _ c

theorem Contacts.egressAsserted_iff (x : Contacts) : x.egressAsserted = true ↔ x.egress ≠ .released := by
  unfold Contacts.egressAsserted
  cases x.egress <;> simp

theorem Contacts.builtFirst_iff (x : Contacts) : x.builtFirst = true ↔ x.egress = .asserted true := by
  unfold Contacts.builtFirst
  cases x.egress <;> simp

/-! ### The entry to RUNNING (R174) -/

/-- R94, R17, R3: what follows the sample touches the line block, the waiting order and the one-shots alone. -/
theorem State.afterSample_frame (v : State) :
    v.powerOnRecall.startLossTimer.visitFrom 0 =
      { v with
        line :=
          { (v.powerOnRecall.startLossTimer.visitFrom 0).line with
            lossDeclared := v.line.lossDeclared
            lossTimer :=
              if v.part = .running ∧ v.line.roster ≠ [] ∧ v.line.lossDeclared = false then some v.mgmt.settings.lineLoss
              else v.line.lossTimer }
        claims :=
          { v.claims with
            order := v.claims.order ++
              match v.mgmt.settings.powerOnScene with
              | some n => [.recall n none]
              | none => [] }
        feedback := (v.powerOnRecall.startLossTimer.visitFrom 0).feedback } := by
  refine (State.visitFrom_frame 0 v.powerOnRecall.startLossTimer).trans ?_
  generalize (v.powerOnRecall.startLossTimer.visitFrom 0).line = l
  generalize (v.powerOnRecall.startLossTimer.visitFrom 0).feedback = f
  rw [State.startLossTimer_eq, State.powerOnRecall_eq]

/-- R132, R135: the first LEVEL frame, built at once from an idle loop. -/
theorem State.firstFrame {s : State} (hp : s.part = .running) (hw : s.loop.waiting = []) (ht : s.loop.transmitter = none)
    (ho : s.loop.outstanding = []) (hn : s.loop.nextSeq = 0) :
    s.startSchedule.transmitStart.loop =
      { s.loop with
        levelRotation := 1
        waiting := []
        transmitter := some { kind := .level, segment := 0, seq := 0, slots := s.segmentCodes 0 }
        nextSeq := 1
        outstanding := [{ kind := .level, segment := 0, seq := 0, sent := s.segmentCodes 0, ended := false }] } := by
  have hdue : s.startSchedule.loop.waiting = [{ kind := .level, segment := 0 }] := by
    show (s.loop.levelDue 0).waiting = _
    unfold LoopBlock.levelDue
    rw [hw]; rfl
  have hbuilt : s.startSchedule.builtFrame { kind := .level, segment := 0 } =
      { kind := .level, segment := 0, seq := 0, slots := s.segmentCodes 0 } := by
    rw [← hn]; rfl
  unfold State.transmitStart
  rw [hdue]
  dsimp only
  rw [if_pos ⟨hp, ht, by rw [show s.startSchedule.loop.outstanding = [] from ho]; decide⟩, hbuilt]
  show LoopBlock.mk _ _ _ _ (s.loop.nextSeq + 1) (s.loop.outstanding ++ _) _ _ _ _ = _
  rw [hn, ho]
  rfl

/-- R149, R174: the loop as the entry to RUNNING leaves it (log entry 20). -/
theorem State.entryLoop {s : State} (hp : s.part = .running) (hl : s.loop = State.reset.loop) (b : Bool) :
    let l := if b then s.startSchedule.transmitStart.loop else s.loop.levelDue 0
    l.levelRotation = 1 ∧ l.statusRotation = 0 ∧ l.failures = 0 ∧ l.openRun = 0 ∧ l.fault = none ∧
      l.status = Vector.replicate 512 .notPresent ∧
      (b = false → l.waiting = [{ kind := .level, segment := 0 }] ∧ l.transmitter = none ∧ l.outstanding = [] ∧ l.nextSeq = 0) ∧
      (b = true → l.waiting = [] ∧
        l.transmitter = some { kind := .level, segment := 0, seq := 0, slots := s.segmentCodes 0 } ∧ l.nextSeq = 1 ∧
        l.outstanding = [{ kind := .level, segment := 0, seq := 0, sent := s.segmentCodes 0, ended := false }]) := by
  cases b with
  | false =>
    dsimp only
    rw [if_neg (by simp), hl]
    exact ⟨rfl, rfl, rfl, rfl, rfl, rfl, fun _ => ⟨rfl, rfl, rfl, rfl⟩, fun h => absurd h (by decide)⟩
  | true =>
    dsimp only
    rw [if_pos rfl, State.firstFrame hp (by rw [hl]; rfl) (by rw [hl]; rfl) (by rw [hl]; rfl) (by rw [hl]; rfl), hl]
    exact ⟨rfl, rfl, rfl, rfl, rfl, rfl, fun h => absurd h (by decide), fun _ => ⟨rfl, rfl, rfl, rfl⟩⟩

/-- R174: the entry to RUNNING, block by block, apart from the first visit and from what the sample writes into the circuits. -/
theorem State.enterRunning_frame {s w : State} {T : Tables} {x : Contacts} (hw : s.install .running T true x = w) :
    s.enterRunning T x =
      { w with
        line :=
          { (s.enterRunning T x).line with
            lossDeclared := w.line.lossDeclared
            lossTimer :=
              if w.part = .running ∧ w.line.roster ≠ [] ∧ w.line.lossDeclared = false then some w.mgmt.settings.lineLoss
              else w.line.lossTimer }
        claims :=
          { w.claims with
            circuits := w.egressSample.claims.circuits
            order := w.claims.order ++
              match w.mgmt.settings.powerOnScene with
              | some n => [.recall n none]
              | none => [] }
        engine := { w.engine with circuits := w.egressSample.engine.circuits }
        loop := if x.builtFirst then w.startSchedule.transmitStart.loop else w.loop.levelDue 0
        feedback := (s.enterRunning T x).feedback } := by
  have ht := (w.scheduleAndSample x.builtFirst).afterSample_frame
  have hv := w.scheduleAndSample_eq x.builtFirst
  rw [State.egressSample_frame] at hv
  unfold State.enterRunning
  rw [hw]
  refine ht.trans ?_
  generalize (w.scheduleAndSample x.builtFirst).powerOnRecall.startLossTimer.visitFrom 0 = t
  rw [hv]
  rfl

/-- R3, R174: the first POLL after the entry to RUNNING. -/
theorem State.enterRunning_visit {s : State} {T : Tables} (x : Contacts) (hline : s.line = State.reset.line)
    (hT : ∀ e ∈ T.roster, 1 ≤ e.station ∧ e.slot = none) :
    (s.enterRunning T x).line.roster = T.roster ∧
      ∃ p, (s.enterRunning T x).line.phase = .sending p ∧ p.reply = none ∧
        p.station = match T.roster with | e :: _ => e.station | [] => Config.serviceStation := by
  have hunvisited : ∃ d, (((s.install .running T true x).scheduleAndSample x.builtFirst).powerOnRecall.startLossTimer).line =
      { s.line with roster := T.roster, lossTimer := d } := by
    rw [State.startLossTimer_eq, State.powerOnRecall_eq, State.scheduleAndSample_eq, State.egressSample_frame]
    exact ⟨_, rfl⟩
  obtain ⟨d, hd⟩ := hunvisited
  have visited := State.visitFrom_loaded
    (s := ((s.install .running T true x).scheduleAndSample x.builtFirst).powerOnRecall.startLossTimer)
    (by rw [hd, hline]; rfl) (by rw [hd, hline]; rfl) (by rw [hd]; exact hT)
  rw [hd] at visited
  exact visited

/-- R161, R174: a circuit after the entry to RUNNING. -/
theorem State.enterRunning_circuit {s : State} (T : Tables) (x : Contacts) (hclaims : s.claims = State.reset.claims) (c : Circuit) :
    ((s.enterRunning T x).circ c).claims = [] ∧ ((s.enterRunning T x).eng c).attr = T.attrs[c] ∧
      (((s.enterRunning T x).circ c).egress = none → (s.enterRunning T x).eng c = .atEntry T.attrs[c]) := by
  have hcirc : (s.enterRunning T x).circ c = (s.install .running T true x).egressSample.circ c := by
    rw [State.enterRunning_frame rfl]; rfl
  have heng : (s.enterRunning T x).eng c = (s.install .running T true x).egressSample.eng c := by
    rw [State.enterRunning_frame rfl]; rfl
  have hinstalled := s.install_eng .running T true x c
  obtain ⟨hattr, -, hunwritten⟩ := (s.install .running T true x).egressSample_circuit c
  rw [hinstalled] at hattr hunwritten
  have hempty : ((s.install .running T true x).circ c).claims = [] := by
    show (s.circ c).claims = []
    unfold State.circ
    rw [hclaims]
    exact congrArg ClaimCircuit.claims (State.circ_enterLoading s c)
  have hlist : ((s.install .running T true x).egressSample.circ c).claims = [] := by
    unfold State.egressSample
    split
    · exact (State.safetyWrite_claims _ _ _ _ _).trans hempty
    · exact hempty
  rw [hcirc, heng]
  exact ⟨hlist, hattr, hunwritten⟩

/-- R174: LOADING_END after six good sections. -/
theorem enterRunning_entered {s : State} {T : Tables} (x : Contacts) (hp : s.powered = true ∧ s.part = .loading)
    (hfresh : s.enterLoading = s) (hT : loadImage s.store.image = some T) :
    let t := s.enterRunning T x
    t.part = .running ∧ t.tables = T ∧ t.store.valid = true ∧ t.store.image = s.store.image ∧ t.mgmt.flags = 0 ∧
      (t.claims.egressAsserted = true ↔ x.egress ≠ .released) ∧
      t.cues.cueA = x.cueA ∧ t.cues.cueB = x.cueB ∧ t.cues.mode = .work ∧ t.cues.pin = false ∧
      (∀ c : Circuit, (t.circ c).claims = [] ∧ (t.circ c).loss = none ∧
        (t.circ c).egress =
          if x.egress ≠ .released ∧ (t.eng c).attr.egress = true then some (t.eng c).attr.egressLevel else none) ∧
      (∀ c : Circuit, (t.circ c).egress = none → t.eng c = .atEntry (t.eng c).attr) ∧
      t.claims.order = (match T.settings.powerOnScene with | some n => [.recall n none] | none => []) ∧
      t.line.lossTimer = (if T.roster = [] then none else some T.settings.lineLoss) ∧
      (∃ w : State, w.part = .running ∧ w.loop = State.reset.loop ∧
        t.loop = (if x.builtFirst then w.startSchedule.transmitStart.loop else w.loop.levelDue 0) ∧
        ∀ c, w.eng c = .atEntry (t.eng c).attr) ∧
      ∃ p, t.line.phase = .sending p ∧ p.reply = none ∧
        p.station = (match T.roster with | e :: _ => e.station | [] => Config.serviceStation) := by
  have hline : s.line = State.reset.line := (congrArg State.line hfresh).symm
  have hclaims : s.claims = State.reset.claims := (congrArg State.claims hfresh).symm
  have hcues : s.cues = State.reset.cues := (congrArg State.cues hfresh).symm
  have hmgmt : s.mgmt = State.reset.mgmt := (congrArg State.mgmt hfresh).symm
  have hloop : s.loop = State.reset.loop := (congrArg State.loop hfresh).symm
  obtain ⟨hroster, hpoll⟩ := State.enterRunning_visit (T := T) x hline fun e he =>
    let ⟨h1, _, _, _, _, _, h7⟩ := (loadImage_roster_good hT).2.2 e he
    ⟨h1, h7⟩
  have hlaws : (s.enterRunning T x).Laws := by
    have h := (State.loadingEnd_laws x hp hfresh).1
    unfold State.loadingEnd at h
    rwa [if_pos hp, hT] at h
  obtain ⟨hegress, hloss, -, -⟩ := hlaws
  have hcircuit := State.enterRunning_circuit T x hclaims
  have hframe := State.enterRunning_frame (s := s) (T := T) (x := x) rfl
  have hasserted : (s.enterRunning T x).claims.egressAsserted = x.egressAsserted := by rw [hframe]; rfl
  have hdeclared : (s.enterRunning T x).line.lossDeclared = false := by
    rw [hframe]; show s.line.lossDeclared = false; rw [hline]; rfl
  refine ⟨by rw [hframe]; rfl, ?_, by rw [hframe]; rfl, by rw [hframe]; rfl, ?_, ?_, by rw [hframe]; rfl, by rw [hframe]; rfl,
    ?_, ?_, fun c => ⟨(hcircuit c).1, hloss hdeclared c, ?_⟩, fun c hn => ?_, ?_, ?_,
    ⟨s.install .running T true x, rfl, hloop, ?_, fun c => ?_⟩, hpoll⟩
  · exact State.tables_of (by rw [hframe]; rfl) hroster (by rw [hframe]; rfl) (by rw [hframe]; rfl) (by rw [hframe]; rfl)
      fun c => (hcircuit c).2.1
  · rw [hframe]; show s.mgmt.flags = 0; rw [hmgmt]; rfl
  · rw [hasserted]; exact x.egressAsserted_iff
  · rw [hframe]; show s.cues.mode = .work; rw [hcues]; rfl
  · rw [hframe]; show s.cues.pin = false; rw [hcues]; rfl
  · rw [hegress c, hasserted]
    simp only [x.egressAsserted_iff]
  · rw [(hcircuit c).2.1]; exact (hcircuit c).2.2 hn
  · rw [hframe]; show s.claims.order ++ _ = _; rw [hclaims]; rfl
  · rw [hframe]
    show (if Part.running = .running ∧ T.roster ≠ [] ∧ s.line.lossDeclared = false then some T.settings.lineLoss
      else s.line.lossTimer) = _
    rw [hline]
    by_cases hnil : T.roster = []
    · rw [if_pos hnil, if_neg fun h => h.2.1 hnil]; rfl
    · rw [if_neg hnil]; exact if_pos ⟨rfl, hnil, rfl⟩
  · rw [hframe]
  · rw [(hcircuit c).2.1]; exact s.install_eng .running T true x c

/-! ### The entry to UNCONFIGURED (R175) -/

/-- R175: with default attributes the sample writes no circuit. -/
theorem State.enterUnconfigured_circ (s : State) (x : Contacts) (c : Circuit) :
    (s.enterUnconfigured x).circ c = s.circ c ∧ ((s.enterUnconfigured x).eng c).attr = Attr.default := by
  let w := (s.install .unconfigured Tables.default false x).report .storeFault
  have hvisit : ∀ u : State, (u.visitFrom 0).circ c = u.circ c ∧ (u.visitFrom 0).eng c = u.eng c := fun u => by
    rw [State.visitFrom_frame]; exact ⟨rfl, rfl⟩
  have hattr : (w.eng c).attr = Attr.default := by
    show ((s.install .unconfigured Tables.default false x).eng c).attr = _
    rw [State.install_eng]
    show (Vector.replicate 512 Attr.default)[c] = _
    simp
  obtain ⟨-, hunflagged, -⟩ := w.egressSample_circuit c
  obtain ⟨hcirc, heng⟩ := hunflagged (by rw [hattr]; rfl)
  unfold State.enterUnconfigured
  rw [(hvisit _).1, (hvisit _).2]
  exact ⟨hcirc, (congrArg EngineCircuit.attr heng).trans hattr⟩

/-- R175: the entry to UNCONFIGURED, block by block, apart from what the sample writes into the circuits. -/
theorem State.enterUnconfigured_frame (s : State) (x : Contacts) :
    let w := (s.install .unconfigured Tables.default false x).report .storeFault
    s.enterUnconfigured x =
      State.visitService
        { w with
          claims := { w.claims with circuits := w.egressSample.claims.circuits }
          engine := { w.engine with circuits := w.egressSample.engine.circuits } } := by
  dsimp only
  unfold State.enterUnconfigured State.visitFrom
  rw [State.egressSample_frame]
  rfl

/-- R175: LOADING_END after a bad section. -/
theorem enterUnconfigured_entered {s : State} (x : Contacts) (hfresh : s.enterLoading = s) :
    let t := s.enterUnconfigured x
    t.part = .unconfigured ∧ t.tables = Tables.default ∧ t.store.valid = false ∧ t.store.image = s.store.image ∧
      t.mgmt.flags = 0x2000#16 ∧ t.faultOutput = true ∧ (t.claims.egressAsserted = true ↔ x.egress ≠ .released) ∧
      t.cues.cueA = x.cueA ∧ t.cues.cueB = x.cueB ∧ t.claims.order = [] ∧ (∀ c : Circuit, t.circ c = s.circ c) ∧
      t.loop = s.loop ∧ t.line.lossTimer = none ∧
      t.line.phase = .sending { station := Config.serviceStation, codes := [], reply := none } := by
  have hline : s.line = State.reset.line := (congrArg State.line hfresh).symm
  have hclaims : s.claims = State.reset.claims := (congrArg State.claims hfresh).symm
  have hmgmt : s.mgmt = State.reset.mgmt := (congrArg State.mgmt hfresh).symm
  have hframe := s.enterUnconfigured_frame x
  have hcircuit := s.enterUnconfigured_circ x
  have hflags : (s.enterUnconfigured x).mgmt.flags = 0x2000#16 := by
    rw [hframe]; show s.mgmt.flags ||| Flag.storeFault.word = _; rw [hmgmt]; decide
  have hsettings : (s.enterUnconfigured x).mgmt.settings = Settings.default := by rw [hframe]; rfl
  refine ⟨by rw [hframe]; rfl, ?_, by rw [hframe]; rfl, by rw [hframe]; rfl, hflags, ?_, ?_, by rw [hframe]; rfl,
    by rw [hframe]; rfl, ?_, fun c => (hcircuit c).1, by rw [hframe]; rfl, ?_, ?_⟩
  · refine State.tables_of hsettings (by rw [hframe]; rfl) (by rw [hframe]; rfl) (by rw [hframe]; rfl) (by rw [hframe]; rfl)
      fun c => (hcircuit c).2.trans ?_
    show _ = (Vector.replicate 512 Attr.default)[c]
    simp
  · unfold State.faultOutput
    rw [hflags, hsettings]; decide
  · have hasserted : (s.enterUnconfigured x).claims.egressAsserted = x.egressAsserted := by rw [hframe]; rfl
    rw [hasserted]; exact x.egressAsserted_iff
  · rw [hframe]; show s.claims.order = []; rw [hclaims]; rfl
  · rw [hframe]; show s.line.lossTimer = none; rw [hline]; rfl
  · rw [hframe]
    show LinePhase.sending { station := _, codes := [], reply := s.line.serviceSlot } = _
    rw [hline]; rfl

/-- Settles O20: the image decides the entry; each entry is read block by block from the values after power-on. -/
theorem loadingEndEntersItsState : Obligations.LoadingEndEntersItsState := by
  refine ⟨fun s T egress cueA cueB hpow hpart hfresh hT => ?_, fun s egress cueA cueB hpow hpart hfresh hbad => ?_⟩
  · have hrun : s.loadingEnd { egress := egress, cueA := cueA, cueB := cueB } =
        s.enterRunning T { egress := egress, cueA := cueA, cueB := cueB } := by
      unfold State.loadingEnd
      rw [if_pos ⟨hpow, hpart⟩, hT]
    obtain ⟨hpart', htables, hvalid, himage, hflags, hasserted, hcueA, hcueB, hmode, hpin, hcirc, heng, horder, htimer,
      ⟨w, hwp, hwl, hloop, hw⟩, hpoll⟩ :=
      enterRunning_entered { egress := egress, cueA := cueA, cueB := cueB } ⟨hpow, hpart⟩ (hfresh hpart) hT
    obtain ⟨hlevel, hstatus, hfailures, hopen, hfault, hracks, hwaits, hbuilt⟩ :=
      State.entryLoop hwp hwl (Contacts.builtFirst { egress := egress, cueA := cueA, cueB := cueB })
    rw [← hloop] at hlevel hstatus hfailures hopen hfault hracks hwaits hbuilt
    refine ⟨_, congrArg Host.Outcome.next hrun, hpart', htables, hvalid, himage, hflags, hasserted, hcueA, hcueB, hmode, hpin,
      hcirc, fun c hn => ?_, horder, htimer, hlevel, hstatus, hfailures, hopen, hfault, hracks, fun hnot => ?_, fun hfirst => ?_,
      hpoll⟩
    · rw [heng c hn]; exact ⟨rfl, rfl, rfl⟩
    · exact hwaits (Bool.eq_false_iff.mpr fun h => hnot ((Contacts.builtFirst_iff _).mp h))
    · obtain ⟨hwaiting, htransmitter, hseq, houtstanding⟩ := hbuilt ((Contacts.builtFirst_iff _).mpr hfirst)
      obtain ⟨hlength, hcodes⟩ := w.segmentCodes_zero
      refine ⟨_, rfl, rfl, rfl, hlength, fun c hc => ?_, hwaiting, htransmitter, hseq, houtstanding⟩
      rw [hcodes c hc, hw c]; rfl
  · have hun : s.loadingEnd { egress := egress, cueA := cueA, cueB := cueB } =
        s.enterUnconfigured { egress := egress, cueA := cueA, cueB := cueB } := by
      unfold State.loadingEnd
      rw [if_pos ⟨hpow, hpart⟩, hbad]
    exact ⟨_, congrArg Host.Outcome.next hun, enterUnconfigured_entered _ (hfresh hpart)⟩

end Sys2Proof.Machine
end

section
/-! SUPPORT. What the law of the claims, the held law and the merge law read of a state, and the operations that leave it as it
was. -/

namespace Sys2Proof.Machine

/-! ### What the laws read -/

/-- The circuit of a merge-rule request (R75). -/
def Request.ruleCircuit : Request → Option Circuit
  | .mergeRule _ c _ => some c
  | _ => none

/-- What the laws of the Claim Table read of a state. -/
structure TableView where
  circuits : Vector ClaimCircuit 512
  poolFree : Nat
  setOpen : Bool
  rules : List Circuit
  mode : Mode
  held : Circuit → Nat × Bool
  rule : Circuit → MergeRule

/-- The part of a state that the laws of the Claim Table read. -/
def State.table (s : State) : TableView where
  circuits := s.claims.circuits
  poolFree := s.claims.poolFree
  setOpen := s.claims.openSet.isSome
  rules := s.claims.order.filterMap Request.ruleCircuit
  mode := s.cues.mode
  held c := ((s.eng c).target, (s.eng c).safety)
  rule c := (s.eng c).attr.mergeRule

/-- Two states agree in all that the laws read when they agree in the blocks from which it is read; of the waiting order the laws read
the merge-rule requests alone. -/
theorem State.table_congr {s t : State} (hc : t.claims.circuits = s.claims.circuits)
    (hp : t.claims.poolFree = s.claims.poolFree) (ho : t.claims.openSet.isSome = s.claims.openSet.isSome)
    (hr : t.claims.order.filterMap Request.ruleCircuit = s.claims.order.filterMap Request.ruleCircuit)
    (hm : t.cues.mode = s.cues.mode)
    (he : ∀ c : Circuit, (t.eng c).target = (s.eng c).target ∧ (t.eng c).safety = (s.eng c).safety ∧
      (t.eng c).attr.mergeRule = (s.eng c).attr.mergeRule) : t.table = s.table := by
  unfold State.table
  simp only [hc, hp, ho, hr, hm, fun c => (he c).1, fun c => (he c).2.1, fun c => (he c).2.2]

theorem State.ruleWaits_iff (s : State) (c : Circuit) : s.ruleWaits c = true ↔ c ∈ s.table.rules := by
  unfold State.ruleWaits State.table
  rw [List.any_eq_true, List.mem_filterMap]
  refine exists_congr fun r => and_congr_right fun _ => ?_
  cases r <;> simp [Request.ruleCircuit]

theorem State.ruleWaits_eq (s : State) (c : Circuit) : s.ruleWaits c = decide (c ∈ s.table.rules) := by
  rw [Bool.eq_iff_iff, State.ruleWaits_iff, decide_eq_true_iff]

/-! ### The operations that leave it as it was -/

@[simp] theorem State.table_withPending (s : State) (l : List Instr) : (s.withPending l).table = s.table := rfl
@[simp] theorem State.table_withLoop (s : State) (l : LoopBlock) : (s.withLoop l).table = s.table := rfl
@[simp] theorem State.table_report (s : State) (f : Flag) : (s.report f).table = s.table := rfl
@[simp] theorem State.table_endRequest (s : State) (n : Nat) : (s.endRequest n).table = s.table := rfl
@[simp] theorem State.table_beginRequest (s : State) (n tag : Nat) : (s.beginRequest n tag).table = s.table := rfl
@[simp] theorem State.table_setActive (s : State) (n : Option SceneNo) : (s.setActive n).table = s.table := rfl
@[simp] theorem State.table_setScene (s : State) (n : SceneNo) (r : SceneRecord) : (s.setScene n r).table = s.table := rfl
@[simp] theorem State.table_setPendings (s : State) (l : List Pending) : (s.setPendings l).table = s.table := rfl
@[simp] theorem State.table_dropShots (s : State) (n k : Nat) : (s.dropShots n k).table = s.table := rfl
@[simp] theorem State.table_dropFeedback (s : State) (n : Nat) : (s.dropFeedback n).table = s.table := rfl
@[simp] theorem State.table_takeShots (s : State) (n k : Nat) : (s.takeShots n k).table = s.table := rfl
@[simp] theorem State.table_setWindow (s : State) (i : WindowIndex) (w : Window) : (s.setWindow i w).table = s.table := rfl
@[simp] theorem State.table_setGroup (s : State) (g : GroupNo) (l : List Circuit) : (s.setGroup g l).table = s.table := rfl
@[simp] theorem State.table_setSettings (s : State) (t : Settings) : (s.setSettings t).table = s.table := rfl
@[simp] theorem State.table_setRoster (s : State) (l : List RosterEntry) : (s.setRoster l).table = s.table := rfl
@[simp] theorem State.table_modifyEntry (s : State) (n : Nat) (f : RosterEntry → RosterEntry) :
    (s.modifyEntry n f).table = s.table := rfl
@[simp] theorem State.table_setEgress (s : State) (b : Bool) : (s.setEgress b).table = s.table := rfl

@[simp] theorem State.table_reportIf (s : State) (b : Bool) (f : Flag) : (s.reportIf b f).table = s.table := by
  cases b <;> rfl

@[simp] theorem State.table_setCueContact (s : State) (x : Cue) (b : Bool) : (s.setCueContact x b).table = s.table := by
  cases x <;> rfl

@[simp] theorem State.table_offerUnrouted (s : State) (u : Unrouted) : (s.offerUnrouted u).table = s.table := by
  unfold State.offerUnrouted
  split
  · rfl
  · split <;> rfl

@[simp] theorem State.table_startLossTimer (s : State) : s.startLossTimer.table = s.table := by
  unfold State.startLossTimer
  split <;> rfl

@[simp] theorem State.table_discardReply (n : Nat) (e : RosterEntry) (s : State) : (s.discardReply n e).table = s.table := by
  unfold State.discardReply
  split <;> rfl

/-! ### The waiting order -/

/-- The waiting order rewritten without a change to the merge-rule requests. -/
theorem State.table_order (s : State) {l : List Request}
    (h : l.filterMap Request.ruleCircuit = s.claims.order.filterMap Request.ruleCircuit) :
    State.table { s with claims := { s.claims with order := l } } = s.table :=
  State.table_congr rfl rfl rfl h rfl fun _ => ⟨rfl, rfl, rfl⟩

/-- A request other than a merge-rule request joins the order. -/
theorem State.table_request (s : State) {r : Request} (h : r.ruleCircuit = none) : (s.request r).table = s.table :=
  s.table_order (by simp [h])

/-- Requests other than merge-rule requests are withdrawn. -/
theorem State.table_withdraw (s : State) {gone : Request → Bool} (h : ∀ r, gone r = true → r.ruleCircuit = none) :
    (s.withdraw gone).table = s.table := by
  refine s.table_order ?_
  rw [List.filterMap_filter]
  refine congrArg (fun f => s.claims.order.filterMap f) (funext fun r => ?_)
  cases hr : gone r
  · simp
  · simp [h r hr]

@[simp] theorem State.table_withdrawAbsence (s : State) (n : Nat) : (s.withdrawAbsence n).table = s.table :=
  s.table_withdraw fun r hr => by rw [eq_of_beq hr]; rfl

@[simp] theorem State.table_requestRemoval (n : Nat) (s : State) : (s.requestRemoval n).table = s.table := by
  unfold State.requestRemoval
  split
  · rfl
  · exact s.table_request rfl

/-- The head of the waiting order, no merge-rule request, leaves it. -/
theorem State.table_takeHead {s : State} {r : Request} (hg : s.grantable = some r) (h : r.ruleCircuit = none) :
    s.takeHead.table = s.table := by
  refine s.table_order ?_
  rw [State.order_of_grantable hg]
  simp [h]

/-! ### Outcomes and replies -/

/-- A change to the feedback alone. -/
theorem State.table_of_feedback {s t : State} {f : FeedbackBlock} (h : t = { s with feedback := f }) : t.table = s.table := by
  subst h; rfl

@[simp] theorem State.table_outcome (s : State) (st k : Nat) (ack : Bool) : (s.outcome st k ack).table = s.table :=
  State.table_of_feedback (s.outcome_feedback_only st k ack)

@[simp] theorem State.table_settle (s : State) (st k : Nat) (f : FeedbackKind) (refused : Bool) (l : List Circuit) :
    (s.settle st k f refused l).table = s.table :=
  State.table_of_feedback (s.settle_feedback_only st k f refused l)

@[simp] theorem State.table_accept (s : State) (st k : Nat) (f : FeedbackKind) (l : List Circuit) :
    (s.accept st k f l).table = s.table :=
  s.table_settle st k f false l

@[simp] theorem State.table_nackEach (l : List Pending) (s : State) : (State.nackEach l s).table = s.table :=
  State.table_of_feedback (State.nackEach_feedback_only l s)

@[simp] theorem State.table_settleRecords (pub : List Circuit) (l : List Applied) (s : State) :
    (State.settleRecords pub l s).table = s.table :=
  State.table_of_feedback (State.settleRecords_feedback_only pub l s)

@[simp] theorem State.table_levelReport (s : State) (g : Segment) (intact : Bool) : (s.levelReport g intact).table = s.table :=
  State.table_of_feedback (s.levelReport_feedback_only g intact)

@[simp] theorem State.table_complete (s : State) (n : Nat) (r : Result) (p : List Byte) : (s.complete n r p).table = s.table := by
  rw [State.complete_eq]; rfl

@[simp] theorem State.table_replyFires (l : List Fire) (s : State) : (State.replyFires l s).table = s.table := by
  induction l generalizing s with
  | nil => rfl
  | cons f rest ih => exact (ih _).trans (s.table_complete _ _ _)

/-! ### Visits -/

@[simp] theorem State.table_visitFrom (s : State) (n : Nat) : (s.visitFrom n).table = s.table := by
  unfold State.visitFrom
  split <;> rfl

@[simp] theorem State.table_nextVisit (s : State) : s.nextVisit.table = s.table := by
  have cycle : s.endCycle.table = s.table := State.table_visitFrom _ 0
  unfold State.nextVisit
  split
  · exact s.table_visitFrom _
  · split
    · rfl
    · exact cycle
  · exact cycle

/-! ### Cues, windows and event records -/

theorem Request.joined_ruleCircuit (x : Cue) (records : List Pending) (fires : List Fire) (r : Request) :
    (r.joined x records fires).ruleCircuit = r.ruleCircuit := by
  cases r with
  | cue =>
    unfold Request.joined
    dsimp only
    split <;> rfl
  | _ => rfl

@[simp] theorem State.table_cueEvent (x : Cue) (fire : Option Nat) (s : State) : (s.cueEvent x fire).table = s.table := by
  unfold State.cueEvent
  dsimp only
  split
  · split <;> simp
  · split
    · refine State.table_order (s.setPendings (s.cues.pendings.filter (·.cue != x))) ?_
      simp [List.filterMap_map, Request.joined_ruleCircuit]
    · exact State.table_request (s.setPendings (s.cues.pendings.filter (·.cue != x))) rfl

theorem State.table_cueInput (x : Cue) (asserted : Bool) (s : State) : (s.cueInput x asserted).table = s.table := by
  unfold State.cueInput
  repeat' split
  all_goals simp

@[simp] theorem State.table_dropPendings (gone : Pending → Bool) (s : State) : (s.dropPendings gone).table = s.table := by
  simp [State.dropPendings]

@[simp] theorem State.table_enterPending (p : Pending) (s : State) : (s.enterPending p).table = s.table := by
  unfold State.enterPending
  repeat' split
  all_goals simp

theorem Request.ruleCircuit_of_windowAsker {r : Request} (h : r.windowAsker.isSome = true) : r.ruleCircuit = none := by
  cases r <;> simp_all [Request.windowAsker, Request.ruleCircuit]

theorem State.table_handScene {r : Request} (h : r.ruleCircuit = none) (s : State) : (s.handScene r).table = s.table := by
  unfold State.handScene
  split
  · rw [State.table_outcome]
    refine s.table_order ?_
    rw [List.filterMap_map]
    refine congrArg (fun f => s.claims.order.filterMap f) (funext fun q => ?_)
    show (if q.windowAsker.isSome then r else q).ruleCircuit = q.ruleCircuit
    split
    · next hq => rw [h, Request.ruleCircuit_of_windowAsker hq]
    · rfl
  · exact s.table_request h

theorem State.table_handSceneAction (i : WindowIndex) (w : Window) (r : EventRecord) (work : PendingWork) {now : Request}
    (h : now.ruleCircuit = none) (s : State) : (s.handSceneAction i w r work now).table = s.table := by
  unfold State.handSceneAction
  split
  · exact State.table_handScene h s
  · exact State.table_enterPending _ s

@[simp] theorem State.table_writeMaster (s : State) (m : Master) (v : Nat) : (s.writeMaster m v).table = s.table := by
  refine State.table_congr rfl rfl rfl rfl rfl fun c => ?_
  have h : (s.writeMaster m v).eng c = s.eng c ∨ ∃ masters, (s.writeMaster m v).eng c = (s.eng c).recoded masters := by
    unfold State.writeMaster State.eng
    refine (getElem_mapTable _ _ c).symm ▸ ?_
    split
    · exact .inr ⟨_, rfl⟩
    · exact .inl rfl
  rcases h with h | ⟨masters, h⟩ <;> rw [h] <;> exact ⟨rfl, rfl, rfl⟩

/-- R26: no action of a window changes what the Claim Table holds when its record is taken. -/
theorem State.table_act (i : WindowIndex) (w : Window) (r : EventRecord) (s : State) : (s.act i w r).table = s.table := by
  unfold State.act
  dsimp only
  split
  · split
    · unfold State.handClaim
      split
      · exact s.table_request rfl
      · exact State.table_enterPending _ s
    · simp
  · simp
  · exact State.table_handSceneAction _ _ _ _ rfl s
  · exact State.table_handSceneAction _ _ _ _ rfl s
  · split
    · simp
    · exact s.table_request rfl
  · simp
  · rfl

theorem State.table_unrouted (r : EventRecord) (s : State) : (s.unrouted r).table = s.table := by
  unfold State.unrouted
  dsimp only
  repeat' split
  all_goals simp

theorem State.table_takeEventRecord (s : State) : s.takeEventRecord.table = s.table := by
  unfold State.takeEventRecord
  split
  · rfl
  · split
    · unfold State.resolve
      split
      · rfl
      · split
        · exact State.table_unrouted _ _
        · split
          · exact State.table_outcome _ _ _ _
          · exact State.table_act _ _ _ _
    · rfl

theorem State.table_offerEvent (r : EventRecord) (s : State) : (s.offerEvent r).table = s.table := by
  unfold State.offerEvent
  repeat' split
  · rfl
  · simp
  · simp

/-! ### The loop, the store and the fades -/

theorem State.table_frameOutcome (o : Outstanding) (v : LoopVerdict) (s : State) : (s.frameOutcome o v).table = s.table := by
  have h : (s.countVerdict o.segment v).table = s.table := by cases v <;> simp [State.countVerdict]
  unfold State.frameOutcome
  cases o.kind
  · simp [h]
  · exact h

theorem State.table_loopFrameReceived (bits : List Bool) (s : State) : (s.loopFrameReceived bits).table = s.table := by
  unfold State.loopFrameReceived State.takeReturn
  dsimp only
  repeat' split
  all_goals simp [State.table_frameOutcome, State.writeStatus]

theorem State.table_returnTimeout (s : State) : s.returnTimeout.table = s.table := by
  unfold State.returnTimeout
  split
  · rfl
  · split <;> simp [State.table_frameOutcome]

theorem State.table_transmitStart (s : State) : s.transmitStart.table = s.table := by
  unfold State.transmitStart
  repeat' split
  all_goals rfl

theorem State.table_transmitEnd (s : State) : s.transmitEnd.table = s.table := by
  unfold State.transmitEnd
  split <;> rfl

theorem State.table_levelSchedule (s : State) : s.levelSchedule.table = s.table := by
  unfold State.levelSchedule
  split <;> rfl

theorem State.table_statusSchedule (s : State) : s.statusSchedule.table = s.table := by
  unfold State.statusSchedule
  split <;> rfl

/-- R112, R114: a fade step leaves the published copy. -/
theorem EngineCircuit.stepped_held (m : Vector Nat 4) (e : EngineCircuit) :
    (e.stepped m).target = e.target ∧ (e.stepped m).safety = e.safety := by
  unfold EngineCircuit.stepped EngineCircuit.faderStep EngineCircuit.recoded
  dsimp only
  repeat' split
  all_goals exact ⟨rfl, rfl⟩

theorem State.table_fadeStep (s : State) : s.fadeStep.table = s.table := by
  unfold State.fadeStep
  split
  · refine State.table_congr rfl rfl rfl rfl rfl fun c => ?_
    unfold State.eng
    rw [getElem_mapTable]
    exact ⟨(EngineCircuit.stepped_held _ _).1, (EngineCircuit.stepped_held _ _).2, by rw [EngineCircuit.stepped_attr]⟩
  · rfl

theorem State.table_saveCompletion (readBack : List (List Byte)) (s : State) : (s.saveCompletion readBack).table = s.table := by
  unfold State.saveCompletion
  split
  · exact State.table_reportIf _ _ _
  · rfl
  · rfl

theorem State.table_verifyCompletion (s : State) : s.verifyCompletion.table = s.table := by
  unfold State.verifyCompletion
  split
  · exact State.table_complete _ _ _ _
  · rfl
  · rfl

/-! ### Requests of management -/

/-- A reply after a change that the laws do not read. -/
theorem State.table_complete_after {s u : State} {n : Nat} {r : Result} {p : List Byte} (h : u.table = s.table) :
    (u.complete n r p).table = s.table := (u.table_complete n r p).trans h

theorem State.table_storeSettings (t : Settings) (s : State) : (s.storeSettings t).table = s.table := by
  unfold State.storeSettings
  dsimp only
  split <;> rfl

theorem State.table_enableWindow (i : WindowIndex) (b : Bool) (s : State) : (s.enableWindow i b).table = s.table := by
  unfold State.enableWindow
  dsimp only
  split <;> simp

end Sys2Proof.Machine
end

section
/-! SUPPORT. The requests of management that leave what the laws of the Claim Table read as it was. -/

namespace Sys2Proof.Machine

/-- Every request but DELETE, ENROL and WRITE_CIRCUIT: it is answered after work elsewhere, or waits at the arbiter. -/
theorem State.table_serve (c : Instr) (s : State) (he : ∀ a b n k p, c ≠ .enrol a b n k p) (hd : ∀ a b n, c ≠ .delete a b n)
    (hw : ∀ a b n f, c ≠ .writeCircuit a b n f) : (s.serve c).table = s.table := by
  cases c with
  | enrol => exact absurd rfl (he _ _ _ _ _)
  | delete => exact absurd rfl (hd _ _ _)
  | writeCircuit => exact absurd rfl (hw _ _ _ _)
  | readStatus | readEntry | setMask | writeSettings | writeWindow | setWindow | addGroupMember | removeGroupMember
  | setSceneEntry | clearSceneEntry | setSceneFade | fireCue | clearPending | setMaster =>
    simp only [State.serve, State.reqReadStatus, State.reqReadEntry, State.reqSetMask, State.reqWriteSettings,
      State.reqWriteWindow, State.reqSetWindow, State.reqAddGroupMember, State.addMember, State.reqRemoveGroupMember,
      State.reqSetSceneEntry, State.storeSceneEntry, State.reqClearSceneEntry, State.reqSetSceneFade, State.reqFireCue,
      State.reqClearPending, State.reqSetMaster]
    repeat' split
    all_goals simp [State.table_storeSettings, State.table_enableWindow]
  | readUnrouted | clearFlags | restart | save | verify =>
    simp only [State.serve, State.reqReadUnrouted, State.reqClearFlags, State.reqRestart, State.reqSave, State.reqVerify]
    repeat' split
    all_goals first
      | exact State.table_complete_after rfl
      | rfl
  | setLevel | releaseLayer | captureScene | setMode =>
    simp only [State.serve, State.reqSetLevel, State.reqReleaseLayer, State.reqCaptureScene, State.reqSetMode]
    repeat' split
    all_goals first
      | exact State.table_complete _ _ _ _
      | exact State.table_request _ rfl
  | _ => rfl

end Sys2Proof.Machine
end

section
/-! SUPPORT. Steps that keep the law of the claims, the held law and the merge law; work within a change set, and the close of the
set. -/

namespace Sys2Proof.Machine

/-! ### The laws read from the view -/

/-- R61, R64, R75: a circuit that is neither entered nor waits for a merge-rule request holds its merge. -/
def State.Settled (s : State) : Prop :=
  ∀ c : Circuit, (s.circ c).entry = none → s.ruleWaits c = false → ((s.circ c).target, (s.circ c).winner) = s.mergeOf c

theorem State.MergeLaw.settled {s : State} (h : s.MergeLaw) : s.Settled := fun c => (h c).2

theorem State.MergeLaw.of_settled {s : State} (h : s.Settled)
    (he : s.claims.openSet = none → ∀ c : Circuit, (s.circ c).entry = none) : s.MergeLaw := fun c => ⟨fun ho => he ho c, h c⟩

section Congr
variable {s t : State} (h : t.table = s.table)
include h

theorem State.circ_of_table (c : Circuit) : t.circ c = s.circ c :=
  congrArg (fun v : TableView => v.circuits[c]) h

theorem State.held_of_table (c : Circuit) : (t.eng c).target = (s.eng c).target ∧ (t.eng c).safety = (s.eng c).safety :=
  Prod.mk.inj (congrFun (congrArg TableView.held h) c)

theorem State.mode_of_table : t.cues.mode = s.cues.mode := congrArg TableView.mode h

theorem State.rule_of_table (c : Circuit) : (t.eng c).attr.mergeRule = (s.eng c).attr.mergeRule :=
  congrFun (congrArg TableView.rule h) c

theorem State.mergeOf_of_table (c : Circuit) : t.mergeOf c = s.mergeOf c := by
  unfold State.mergeOf
  rw [State.circ_of_table h, State.mode_of_table h, State.rule_of_table h]

theorem State.ruleWaits_of_table (c : Circuit) : t.ruleWaits c = s.ruleWaits c := by
  rw [State.ruleWaits_eq, State.ruleWaits_eq, h]

theorem State.poolFree_of_table : t.claims.poolFree = s.claims.poolFree := congrArg TableView.poolFree h

theorem State.openSet_of_table : t.claims.openSet = none ↔ s.claims.openSet = none := by
  have hopen : t.claims.openSet.isSome = s.claims.openSet.isSome := congrArg TableView.setOpen h
  simp only [← Option.not_isSome_iff_eq_none, hopen]

end Congr

/-- R50 to R52 after work that leaves lists and pool as they are. -/
theorem State.ClaimLaw.congr {s t : State} (h : s.ClaimLaw) (hp : t.claims.poolFree = s.claims.poolFree)
    (hc : ∀ c : Circuit, (t.circ c).claims = (s.circ c).claims) : t.ClaimLaw := by
  unfold State.ClaimLaw State.poolInUse at h ⊢
  simpa only [hp, hc] using h

/-- A step that keeps the laws of the Claim Table. -/
structure KeepsTable (s t : State) : Prop where
  claim : s.ClaimLaw → t.ClaimLaw
  held : s.HeldLaw → t.HeldLaw
  merge : s.MergeLaw → t.MergeLaw

theorem KeepsTable.refl (s : State) : KeepsTable s s := ⟨id, id, id⟩

theorem KeepsTable.trans {s t u : State} (h : KeepsTable s t) (k : KeepsTable t u) : KeepsTable s u :=
  ⟨k.claim ∘ h.claim, k.held ∘ h.held, k.merge ∘ h.merge⟩

theorem State.HeldLaw.of_table {s t : State} (h : s.HeldLaw) (ht : t.table = s.table) : t.HeldLaw := fun c => by
  rw [State.circ_of_table ht, (State.held_of_table ht c).1, (State.held_of_table ht c).2]
  exact h c

theorem State.Settled.of_table {s t : State} (h : s.Settled) (ht : t.table = s.table) : t.Settled := fun c => by
  rw [State.circ_of_table ht, State.ruleWaits_of_table ht, State.mergeOf_of_table ht]
  exact h c

theorem KeepsTable.of_table {s t : State} (h : t.table = s.table) : KeepsTable s t where
  claim hs := hs.congr (State.poolFree_of_table h) fun c => by rw [State.circ_of_table h]
  held hs := hs.of_table h
  merge hs := .of_settled (hs.settled.of_table h) fun ho c => by
    rw [State.circ_of_table h]
    exact (hs c).1 ((State.openSet_of_table h).mp ho)

/-! ### Sums over the circuits -/

theorem sum_allCircuits (f : Circuit → Nat) : (allCircuits.map f).sum = ∑ c, f c := by
  unfold allCircuits
  exact (Fin.sum_univ_def f).symm

/-- Two counts that agree on every circuit but one. -/
theorem sum_allCircuits_update {f g : Circuit → Nat} {c : Circuit} (h : ∀ k, k ≠ c → f k = g k) :
    (allCircuits.map f).sum + g c = (allCircuits.map g).sum + f c := by
  have hf := Finset.add_sum_erase Finset.univ f (Finset.mem_univ c)
  have hg := Finset.add_sum_erase Finset.univ g (Finset.mem_univ c)
  have hrest : ∑ k ∈ Finset.univ.erase c, f k = ∑ k ∈ Finset.univ.erase c, g k :=
    Finset.sum_congr rfl fun k hk => h k (Finset.ne_of_mem_erase hk)
  rw [sum_allCircuits, sum_allCircuits]
  omega

/-! ### Lists without two claims of one layer and owner (R50) -/

/-- R50: no two claims of a list share layer and owner. -/
abbrev ListLaw (l : List Claim) : Prop := l.Pairwise fun a b => a.sameAs b = false

theorem Claim.sameAs_iff {a b : Claim} : a.sameAs b = true ↔ a.layer = b.layer ∧ a.owner = b.owner := by
  simp [Claim.sameAs]

theorem Claim.sameAs_eq_false_iff {a b : Claim} : a.sameAs b = false ↔ ¬(a.layer = b.layer ∧ a.owner = b.owner) := by
  rw [← Claim.sameAs_iff, Bool.not_eq_true]

/-- R54: the one claim of a layer and owner leaves its list. -/
theorem ListLaw.eraseP_eq_filter {l : List Claim} (h : ListLaw l) (cl : Claim) :
    l.eraseP (·.sameAs cl) = l.filter fun x => !x.sameAs cl := by
  induction l with
  | nil => rfl
  | cons x rest ih =>
    obtain ⟨hx, hrest⟩ := List.pairwise_cons.mp h
    cases hs : x.sameAs cl with
    | false => simp [hs, ih hrest]
    | true =>
      have hnone : ∀ y ∈ rest, y.sameAs cl = false := fun y hy => by
        have hxy := Claim.sameAs_eq_false_iff.mp (hx y hy)
        obtain ⟨hl, ho⟩ := Claim.sameAs_iff.mp hs
        rw [Claim.sameAs_eq_false_iff, ← hl, ← ho]
        exact fun e => hxy ⟨e.1.symm, e.2.symm⟩
      rw [List.eraseP_cons_of_pos (p := fun y : Claim => y.sameAs cl) hs, List.filter_cons_of_neg (by simp [hs]),
        List.filter_eq_self.mpr]
      exact fun y hy => by simp [hnone y hy]

/-- A claim joins at the tail of a list that holds none of its layer and owner. -/
theorem ListLaw.append {l : List Claim} {cl : Claim} (h : ListLaw l) (hno : ∀ x ∈ l, x.sameAs cl = false) :
    ListLaw (l ++ [cl]) :=
  List.pairwise_append.mpr ⟨h, List.pairwise_singleton _ _, fun x hx y hy => by
    rw [List.mem_singleton.mp hy]; exact hno x hx⟩

/-- R52, R54 to R57: a placement keeps the list law and the length of the list, and an added claim has room. -/
theorem ListLaw.placed {t : ClaimCircuit} (h : ListLaw t.claims) (free : Nat) (cl : Claim) :
    ListLaw (t.placed (placementOf free cl t.claims) cl).claims ∧
      (t.placed (placementOf free cl t.claims) cl).claims.length =
        t.claims.length + (if placementOf free cl t.claims = .added then 1 else 0) ∧
      (placementOf free cl t.claims = .added → t.claims.length < Config.listMax ∧ 0 < free) := by
  unfold placementOf
  cases hany : t.claims.any (·.sameAs cl) with
  | true =>
    rw [if_pos rfl]
    refine ⟨?_, ?_, nofun⟩
    · show ListLaw (t.claims.eraseP (·.sameAs cl) ++ [cl])
      rw [h.eraseP_eq_filter]
      exact ListLaw.append (List.Pairwise.filter _ h) fun x hx => by simpa using (List.mem_filter.mp hx).2
    · obtain ⟨x, hx, hs⟩ := List.any_eq_true.mp hany
      have hlen := List.length_eraseP_of_mem (p := (·.sameAs cl)) hx hs
      have hpos := List.length_pos_of_mem hx
      simp only [ClaimCircuit.placed, List.length_append, hlen, List.length_singleton]
      simp
      omega
  | false =>
    have hno : ∀ x ∈ t.claims, x.sameAs cl = false := by simpa using hany
    simp only [Bool.false_eq_true, if_false]
    split
    · next hroom =>
      split
      · next hfree => exact ⟨h.append hno, by simp [ClaimCircuit.placed], fun _ => ⟨hroom, hfree⟩⟩
      · exact ⟨h, rfl, nofun⟩
    · split
      · next hlow =>
        obtain ⟨x, hx, hs⟩ := List.any_eq_true.mp hlow
        have hlen := List.length_eraseP_of_mem (p := (·.layer.rank ≤ cl.layer.rank)) hx hs
        have hpos := List.length_pos_of_mem hx
        refine ⟨ListLaw.append (h.sublist List.eraseP_sublist) fun y hy => hno y (List.mem_of_mem_eraseP hy), ?_, nofun⟩
        simp only [ClaimCircuit.placed, List.length_append, hlen, List.length_singleton]
        simp
        omega
      · exact ⟨h, rfl, nofun⟩

/-! ### Work within a change set -/

/-- R63: a circuit that work on claims has left as it was, or changed the list of and entered. -/
def Reworked (a b : ClaimCircuit) : Prop := b = a ∨ ∃ claims fade, b = { a with claims := claims, entry := some fade }

theorem Reworked.trans {a b c : ClaimCircuit} (h : Reworked a b) (k : Reworked b c) : Reworked a c := by
  rcases h with rfl | ⟨_, _, rfl⟩
  · exact k
  · rcases k with rfl | ⟨claims, fade, rfl⟩
    · exact .inr ⟨_, _, rfl⟩
    · exact .inr ⟨claims, fade, rfl⟩

theorem ClaimCircuit.placed_reworked (p : Placement) (cl : Claim) (t : ClaimCircuit) : Reworked t (t.placed p cl) := by
  cases p with
  | replaced | added | evicted => exact .inr ⟨_, _, rfl⟩
  | refusedList | refusedPool => exact .inl rfl

theorem ClaimCircuit.without_reworked (gone : Claim → Bool) (t : ClaimCircuit) : Reworked t (t.without gone) := by
  unfold ClaimCircuit.without
  split
  · exact .inr ⟨_, _, rfl⟩
  · exact .inl rfl

/-- Work within a change set: the lists may change on circuits that are then entered, and the law of the claims is kept. -/
structure SetWork (s t : State) : Prop where
  engine : t.engine = s.engine
  cues : t.cues = s.cues
  order : t.claims.order = s.claims.order
  circ : ∀ c : Circuit, Reworked (s.circ c) (t.circ c)
  claim : s.ClaimLaw → t.ClaimLaw

theorem SetWork.refl (s : State) : SetWork s s := ⟨rfl, rfl, rfl, fun _ => .inl rfl, id⟩

theorem SetWork.trans {s t u : State} (h : SetWork s t) (k : SetWork t u) : SetWork s u where
  engine := k.engine.trans h.engine
  cues := k.cues.trans h.cues
  order := k.order.trans h.order
  circ c := (h.circ c).trans (k.circ c)
  claim := k.claim ∘ h.claim

/-- Work that changes neither claims nor engine nor cues. -/
theorem SetWork.of_blocks {s t : State} (hc : t.claims = s.claims) (he : t.engine = s.engine) (hq : t.cues = s.cues) :
    SetWork s t where
  engine := he
  cues := hq
  order := by rw [hc]
  circ c := .inl (by unfold State.circ; rw [hc])
  claim h := h.congr (by rw [hc]) fun c => by unfold State.circ; rw [hc]

theorem SetWork.heldLaw {s t : State} (h : SetWork s t) (hs : s.HeldLaw) : t.HeldLaw := fun c => by
  unfold State.eng
  rw [h.engine]
  rcases h.circ c with e | ⟨_, _, e⟩ <;> rw [e] <;> exact hs c

theorem SetWork.settled {s t : State} (h : SetWork s t) (hs : s.Settled) : t.Settled := fun c he hw => by
  rcases h.circ c with e | ⟨_, _, e⟩
  · have hw' : s.ruleWaits c = false := by
      unfold State.ruleWaits at hw ⊢
      rwa [h.order] at hw
    unfold State.mergeOf State.eng
    rw [h.engine, h.cues, e]
    rw [e] at he
    exact hs c he hw'
  · rw [e] at he; cases he

/-- R51, R52, R54 to R57: a placement takes a record for an added claim alone. -/
theorem State.ClaimLaw.placeOne {s : State} (h : s.ClaimLaw) (c : Circuit) (cl : Claim) : (s.placeOne c cl).ClaimLaw := by
  obtain ⟨hpool, hlists⟩ := h
  have hself := State.circ_placeOne_self s c cl
  have hother : ∀ k, k ≠ c → (s.placeOne c cl).circ k = s.circ k := fun k hk => State.circ_placeOne_other s cl hk
  obtain ⟨hlist, hlen, hadded⟩ := ListLaw.placed (hlists c).2 s.claims.poolFree cl
  have hfree : (s.placeOne c cl).claims.poolFree =
      if placementOf s.claims.poolFree cl (s.circ c).claims = .added then s.claims.poolFree - 1 else s.claims.poolFree := by
    rw [State.placeOne_eq]; rfl
  refine ⟨?_, fun k => ?_⟩
  · have hsum := sum_allCircuits_update (f := fun k => ((s.placeOne c cl).circ k).claims.length)
      (g := fun k => (s.circ k).claims.length) (c := c) fun k hk => by rw [hother k hk]
    rw [hself] at hsum
    unfold State.placementOn at hsum
    rw [hlen] at hsum
    unfold State.poolInUse at hpool ⊢
    rw [hfree]
    split at hsum
    · next ha =>
      have := (hadded ha).2
      rw [if_pos ha]
      omega
    · next ha =>
      rw [if_neg ha]
      omega
  · by_cases hk : k = c
    · subst hk
      rw [hself]
      unfold State.placementOn
      refine ⟨?_, hlist⟩
      have hmax := (hlists k).1
      rw [hlen]
      split
      · next ha => exact (hadded ha).1
      · exact hmax
    · rw [hother k hk]; exact hlists k

theorem SetWork.placeOne (s : State) (c : Circuit) (cl : Claim) : SetWork s (s.placeOne c cl) where
  engine := by rw [State.placeOne_eq]
  cues := by rw [State.placeOne_eq]
  order := by rw [State.placeOne_eq]
  circ k := by
    by_cases hk : k = c
    · subst hk; rw [State.circ_placeOne_self]; exact ClaimCircuit.placed_reworked _ _ _
    · rw [State.circ_placeOne_other s cl hk]; exact .inl rfl
  claim h := h.placeOne c cl

/-- R51, R58: a removed claim's record returns to the pool. -/
theorem State.ClaimLaw.removeWhere {s : State} (h : s.ClaimLaw) (gone : Circuit → Claim → Bool) :
    (s.removeWhere gone).ClaimLaw := by
  obtain ⟨hpool, hlists⟩ := h
  have hclaims : ∀ c : Circuit, ((s.removeWhere gone).circ c).claims = (s.circ c).claims.filter fun cl => !gone c cl :=
    fun c => by rw [State.circ_removeWhere, ClaimCircuit.claims_without]
  refine ⟨?_, fun c => ?_⟩
  · have hsplit : s.removedCount gone + (s.removeWhere gone).poolInUse = s.poolInUse := by
      unfold State.removedCount State.poolInUse
      simp only [hclaims]
      rw [sum_allCircuits, sum_allCircuits, sum_allCircuits, ← Finset.sum_add_distrib]
      exact Finset.sum_congr rfl fun c _ => (List.length_eq_length_filter_add _).symm
    rw [State.removeWhere_claims]
    show s.claims.poolFree + s.removedCount gone + _ = _
    omega
  · rw [hclaims]
    exact ⟨(List.length_filter_le _ _).trans (hlists c).1, List.Pairwise.filter _ (hlists c).2⟩

theorem SetWork.removeWhere (s : State) (gone : Circuit → Claim → Bool) : SetWork s (s.removeWhere gone) where
  engine := rfl
  cues := rfl
  order := rfl
  circ c := by rw [State.circ_removeWhere]; exact ClaimCircuit.without_reworked _ _
  claim h := h.removeWhere gone

theorem SetWork.placeEach (l : List (Circuit × Claim)) (s : State) : SetWork s (State.placeEach l s).2 := by
  induction l generalizing s with
  | nil => exact .refl s
  | cons x rest ih => exact (SetWork.placeOne s x.1 x.2).trans (ih _)

/-- R36 to R42. -/
theorem SetWork.applyWork (st k : Nat) (i : WindowIndex) (layer : Layer) (w : ClaimWork) (l : List Circuit) (s : State) :
    SetWork s (s.applyWork st k i layer w l).2 := by
  cases w with
  | setLevel | timed | raise | lower => exact .placeEach _ _
  | clear | release => exact .removeWhere _ _
  | press =>
    unfold State.applyWork
    dsimp only
    split
    · exact .refl s
    · exact .placeEach _ _
  | toggle | fader =>
    unfold State.applyWork
    dsimp only
    split
    · exact .removeWhere _ _
    · exact .placeEach _ _

theorem SetWork.placementPass (fade : Nat) (l : List SceneEntry) (s : State) : SetWork s (State.placementPass fade l s).2 := by
  induction l generalizing s with
  | nil => exact .refl s
  | cons e rest ih =>
    unfold State.placementPass
    split
    · exact .placeOne s _ _
    · exact (SetWork.placeOne s _ _).trans (ih _)

theorem SetWork.recallPasses (r : SceneRecord) (s : State) : SetWork s (s.recallPasses r).2 :=
  (SetWork.removeWhere s (outsideScene r)).trans (.placementPass _ _ _)

theorem SetWork.releaseScenes (s : State) : SetWork s s.releaseScenes :=
  (SetWork.removeWhere s inSceneLayer).trans (.of_blocks rfl rfl rfl)

theorem SetWork.applyRecords (l : List Pending) (s : State) : SetWork s (State.applyRecords l s).2 := by
  have one : ∀ (p : Pending) (s : State), SetWork s (s.applyRecord p).2 := fun p s => by
    unfold State.applyRecord
    split
    · cases p.work with
      | claim => exact .applyWork _ _ _ _ _ _ s
      | scene n => exact (SetWork.recallPasses s.player.scenes[n] s).trans (.of_blocks rfl rfl rfl)
      | sceneOff => exact .releaseScenes s
    · exact .refl s
  induction l generalizing s with
  | nil => exact .refl s
  | cons p rest ih => exact (one p s).trans (ih _)

/-! ### Publications and the close of a set -/

@[simp] theorem EngineCircuit.published_held (m : Vector Nat 4) (p : Publication) (e : EngineCircuit) :
    (e.published m p).target = p.target ∧ (e.published m p).safety = (p.winner == .safety) := by
  unfold EngineCircuit.published EngineCircuit.recoded EngineCircuit.faded
  split <;> exact ⟨rfl, rfl⟩

/-- R61, R112: a delivery reaches the Claim Table's held values and the Level Engine alike. -/
theorem State.HeldLaw.deliver {s : State} (h : s.HeldLaw) (pub : Circuit → Option Publication) :
    (s.deliver pub).HeldLaw := fun c => by
  rw [State.circ_deliver, State.eng_deliver]
  cases pub c with
  | none => exact h c
  | some p => simp [ClaimCircuit.held]

theorem State.HeldLaw.closeSet {s : State} (h : s.HeldLaw) : s.closeSet.HeldLaw := fun c => by
  have hd := h.deliver s.closing c
  unfold State.closeSet
  rw [State.circ_emptySet, State.emptySet_eng]
  exact hd

theorem State.ClaimLaw.closeSet {s : State} (h : s.ClaimLaw) : s.closeSet.ClaimLaw :=
  h.congr s.closeSet_poolFree fun c => by rw [State.circ_closeSet]; simp

theorem State.circ_held_remerge (s : State) (c : Circuit) (fade : Nat) :
    (s.circ c).held (s.remerge c fade) = { s.circ c with target := (s.mergeOf c).1, winner := (s.mergeOf c).2 } := by
  unfold State.remerge
  split
  · next h => rw [h]; rfl
  · rfl

theorem State.mergeOf_closeSet (s : State) (c : Circuit) : s.closeSet.mergeOf c = s.mergeOf c := by
  have hrule : (s.closeSet.eng c).attr = (s.eng c).attr := by
    rw [State.eng_closeSet]
    cases s.closing c <;> simp
  unfold State.mergeOf
  rw [hrule, State.closeSet_cues, State.circ_closeSet]
  cases s.closing c <;> rfl

/-- R64: the close of a set merges every entered circuit, and enters none. -/
theorem State.Settled.closeSet {s : State} (h : s.Settled) : s.closeSet.MergeLaw := by
  refine .of_settled (fun c _ hw => ?_) fun _ c => by rw [State.circ_closeSet]
  have hw' : s.ruleWaits c = false := by
    unfold State.ruleWaits at hw ⊢
    rwa [State.closeSet_order] at hw
  rw [State.mergeOf_closeSet, State.circ_closeSet]
  unfold State.closing
  split
  · rw [State.circ_held_remerge]
  · next he => exact h c he hw'

theorem KeepsTable.closeSet (s : State) : KeepsTable s s.closeSet where
  claim := State.ClaimLaw.closeSet
  held := State.HeldLaw.closeSet
  merge h := h.settled.closeSet

/-- R67: a granted request leaves the waiting order, its work is done, and its set closes. -/
theorem KeepsTable.of_closed {s u : State} {r : Request} (hg : s.grantable = some r) (hr : r.ruleCircuit = none)
    (h : SetWork s.takeHead u) : KeepsTable s u.closeSet := by
  have taken := State.table_takeHead hg hr
  have head := KeepsTable.of_table taken
  exact ⟨fun hs => (h.claim (head.claim hs)).closeSet, fun hs => (h.heldLaw (head.held hs)).closeSet,
    fun hs => (h.settled (hs.settled.of_table taken)).closeSet⟩

/-- R84, R102: a granted request leaves the waiting order, its work is done, and its set stays open. -/
theorem KeepsTable.of_open {s u : State} {r : Request} (w : OpenWork) (hg : s.grantable = some r) (hr : r.ruleCircuit = none)
    (h : SetWork s.takeHead u) : KeepsTable s { u with claims := { u.claims with openSet := some w } } := by
  have taken := State.table_takeHead hg hr
  have head := KeepsTable.of_table taken
  exact ⟨fun hs => (h.claim (head.claim hs)).congr rfl fun _ => rfl, h.heldLaw ∘ head.held,
    fun hs => .of_settled (h.settled (hs.settled.of_table taken)) nofun⟩

end Sys2Proof.Machine
end

section
/-! SUPPORT. The commands that change claims, slots, merge rules or the mode keep the laws of the Claim Table. -/

namespace Sys2Proof.Machine

/-! ### Grants and completions -/

theorem KeepsTable.claimActionGrant (s : State) : KeepsTable s s.claimActionGrant := by
  unfold State.claimActionGrant
  split
  · next a hg =>
    unfold State.grantClaimAction
    split
    · exact (KeepsTable.of_closed hg rfl (.applyWork _ _ _ _ _ _ _)).trans (.of_table (State.table_settle _ _ _ _ _ _))
    · exact .of_closed hg rfl (.refl _)
  · exact .refl s

theorem KeepsTable.absenceGrant (s : State) : KeepsTable s s.absenceGrant := by
  unfold State.absenceGrant
  split
  · next n hg =>
    have marked : SetWork s.takeHead (s.takeHead.modifyEntry n fun e => { e with live := .absent }) := .of_blocks rfl rfl rfl
    exact .of_closed hg rfl ((marked.trans (.removeWhere _ _)).trans (.of_blocks rfl rfl rfl))
  · exact .refl s

theorem KeepsTable.stationRemovalGrant (s : State) : KeepsTable s s.stationRemovalGrant := by
  unfold State.stationRemovalGrant
  split
  · next hg => exact .of_closed hg rfl (.removeWhere _ _)
  · exact .refl s

theorem KeepsTable.expiryGrant (s : State) : KeepsTable s s.expiryGrant := by
  unfold State.expiryGrant
  split
  · next hg => exact .of_closed hg rfl (.removeWhere _ _)
  · exact .refl s

theorem KeepsTable.setLevelGrant (s : State) : KeepsTable s s.setLevelGrant := by
  unfold State.setLevelGrant
  split
  · next hg =>
    unfold State.grantSetLevel
    split
    · exact (KeepsTable.of_closed hg rfl (.refl _)).trans (.of_table (State.table_complete _ _ _ _))
    · exact (KeepsTable.of_closed hg rfl (.placeOne _ _ _)).trans (.of_table (State.table_complete _ _ _ _))
  · exact .refl s

theorem KeepsTable.releaseLayerGrant (s : State) : KeepsTable s s.releaseLayerGrant := by
  unfold State.releaseLayerGrant
  split
  · next hg => exact (KeepsTable.of_closed hg rfl (.removeWhere _ _)).trans (.of_table (State.table_complete _ _ _ _))
  · exact .refl s

theorem KeepsTable.recallGrant (s : State) : KeepsTable s s.recallGrant := by
  unfold State.recallGrant
  split
  · next hg => exact .of_open _ hg rfl (.recallPasses _ _)
  · exact .refl s

theorem KeepsTable.recallCompletion (s : State) : KeepsTable s s.recallCompletion := by
  unfold State.recallCompletion
  split
  · next w _ =>
    have closed : KeepsTable s (s.setActive (some w.scene)).closeSet :=
      (KeepsTable.of_table (s.table_setActive _)).trans (.closeSet _)
    unfold State.completeRecall
    dsimp only
    split
    · exact closed.trans (.of_table (State.table_settle _ _ _ _ _ _))
    · exact closed
  · exact .refl s

theorem KeepsTable.releaseGrant (s : State) : KeepsTable s s.releaseGrant := by
  unfold State.releaseGrant
  split
  · next hg => exact (KeepsTable.of_closed hg rfl (.releaseScenes _)).trans (.of_table (State.table_accept _ _ _ _ _))
  · exact .refl s

theorem KeepsTable.captureGrant (s : State) : KeepsTable s s.captureGrant := by
  unfold State.captureGrant
  split
  · next hg =>
    have closed : ∀ {u n r p}, SetWork s.takeHead u → KeepsTable s (u.closeSet.complete n r p) := fun h =>
      (KeepsTable.of_closed hg rfl h).trans (.of_table (State.table_complete _ _ _ _))
    unfold State.grantCapture
    repeat' split
    · exact closed (.refl _)
    · exact closed (.refl _)
    · exact closed (.refl _)
    · exact closed (.of_blocks rfl rfl rfl)
  · exact .refl s

theorem KeepsTable.cueGrant (s : State) : KeepsTable s s.cueGrant := by
  unfold State.cueGrant
  split
  · next hg => exact .of_open _ hg rfl (.applyRecords _ _)
  · exact .refl s

theorem KeepsTable.cueCompletion (s : State) : KeepsTable s s.cueCompletion := by
  unfold State.cueCompletion
  split
  · exact (KeepsTable.closeSet s).trans (.of_table (by simp [State.completeCue]))
  · exact .refl s

/-- R75: the circuit of a granted merge-rule request is entered; every other keeps its own request. -/
theorem KeepsTable.mergeRuleGrant (s : State) : KeepsTable s s.mergeRuleGrant := by
  unfold State.mergeRuleGrant
  split
  · next sender c adjusted hg =>
    refine KeepsTable.trans (t := (s.takeHead.enter (· == c) (s.takeHead.eng c).attr.defaultFade).closeSet) ?_
      (.of_table (State.table_complete _ _ _ _))
    have hcirc : ∀ k : Circuit, ∃ entry, (s.takeHead.enter (· == c) (s.takeHead.eng c).attr.defaultFade).circ k =
        { s.circ k with entry := entry } ∧ (entry = none → k ≠ c ∧ (s.circ k).entry = none) := fun k => by
      rw [State.circ_enter]
      by_cases hk : k = c
      · exact ⟨some (s.takeHead.eng c).attr.defaultFade, by rw [if_pos (by simpa using hk)]; rfl, nofun⟩
      · exact ⟨(s.circ k).entry, by rw [if_neg (by simpa using hk)]; rfl, fun he => ⟨hk, he⟩⟩
    refine ⟨fun h => ?_, fun h => ?_, fun h => State.Settled.closeSet fun k he hw => ?_⟩
    · refine State.ClaimLaw.closeSet (h.congr rfl fun k => ?_)
      obtain ⟨_, e, -⟩ := hcirc k
      rw [e]
    · refine State.HeldLaw.closeSet fun k => ?_
      obtain ⟨_, e, -⟩ := hcirc k
      rw [e]; exact h k
    · obtain ⟨entry, e, hentry⟩ := hcirc k
      rw [e] at he
      obtain ⟨hk, he⟩ := hentry he
      have hrest : s.takeHead.ruleWaits k = false := hw
      have hw' : s.ruleWaits k = false := by
        unfold State.ruleWaits at hrest ⊢
        rw [State.order_of_grantable hg, List.any_cons, hrest]
        simpa using Ne.symm hk
      unfold State.mergeOf
      rw [e]
      exact (h k).2 he hw'
  · exact .refl s

/-! ### The mode (R108) -/

/-- R62: on a list without a WORK claim the mode plays no part. -/
theorem mergeCircuit_of_no_work (m m' : Mode) (r : MergeRule) {t : ClaimCircuit} (h : ∀ cl ∈ t.claims, cl.layer ≠ .work) :
    mergeCircuit m r t = mergeCircuit m' r t := by
  have hall : ∀ m, t.claims.filter (·.eligible m) = t.claims := fun m =>
    List.filter_eq_self.mpr fun cl hcl => by simp [Claim.eligible, h cl hcl]
  unfold mergeCircuit mergeClaims
  rw [hall, hall]

theorem State.circ_changeMode (s : State) (m : Mode) (c : Circuit) :
    ∃ entry, (s.changeMode m).circ c = { s.circ c with entry := entry } ∧
      (entry = none → (s.circ c).entry = none ∧
        (s.changeMode m).mergeOf c = s.mergeOf c) := by
  unfold State.changeMode
  split
  · exact ⟨_, rfl, fun h => ⟨h, rfl⟩⟩
  · unfold State.mergeOf
    rw [State.circ_enter]
    cases hw : (s.circ c).claims.any (·.layer == .work) with
    | true => exact ⟨_, rfl, nofun⟩
    | false =>
      have hno : ∀ cl ∈ (s.circ c).claims, cl.layer ≠ .work := by simpa using hw
      exact ⟨_, rfl, fun h => ⟨h, mergeCircuit_of_no_work _ _ _ hno⟩⟩

theorem State.changeMode_frame (s : State) (m : Mode) :
    (s.changeMode m).engine = s.engine ∧ (s.changeMode m).claims.poolFree = s.claims.poolFree ∧
      (s.changeMode m).claims.order = s.claims.order := by
  unfold State.changeMode
  split
  · exact ⟨rfl, rfl, rfl⟩
  · exact ⟨rfl, rfl, rfl⟩

/-- R108: a change of the mode enters every circuit that it concerns. -/
theorem KeepsTable.changeMode (s : State) (m : Mode) : KeepsTable s (s.changeMode m).closeSet := by
  obtain ⟨hengine, hpool, horder⟩ := s.changeMode_frame m
  refine ⟨fun h => ?_, fun h => ?_, fun h => State.Settled.closeSet fun c he hw => ?_⟩
  · exact (h.congr hpool fun c => by obtain ⟨_, e, -⟩ := s.circ_changeMode m c; rw [e]).closeSet
  · refine State.HeldLaw.closeSet fun c => ?_
    obtain ⟨_, e, -⟩ := s.circ_changeMode m c
    unfold State.eng
    rw [e, hengine]
    exact h c
  · obtain ⟨entry, e, hentry⟩ := s.circ_changeMode m c
    rw [e] at he
    obtain ⟨he, hmerge⟩ := hentry he
    unfold State.ruleWaits at hw
    rw [horder] at hw
    rw [hmerge, e]
    exact (h c).2 he hw

theorem KeepsTable.modeChangeGrant (s : State) : KeepsTable s s.modeChangeGrant := by
  unfold State.modeChangeGrant
  split
  · next hg =>
    have head := KeepsTable.of_table (State.table_takeHead hg rfl)
    unfold State.grantModeAction
    split
    · exact (head.trans (.closeSet _)).trans (.of_table (State.table_outcome _ _ _ _))
    · exact (head.trans (.changeMode _ _)).trans (.of_table (State.table_outcome _ _ _ _))
  · next hg =>
    exact ((KeepsTable.of_table (State.table_takeHead hg rfl)).trans (.changeMode _ _)).trans
      (.of_table (State.table_complete _ _ _ _))
  · exact .refl s

/-! ### The claim timer (R71) -/

@[simp] theorem Claim.counted_layer (cl : Claim) : cl.counted.layer = cl.layer := by
  unfold Claim.counted; split <;> rfl

@[simp] theorem Claim.counted_owner (cl : Claim) : cl.counted.owner = cl.owner := by
  unfold Claim.counted; split <;> rfl

@[simp] theorem Claim.counted_level (cl : Claim) : cl.counted.level = cl.level := by
  unfold Claim.counted; split <;> rfl

/-- R59, R60: the merge does not read what the claim timer counts. -/
theorem mergeClaims_counted (m : Mode) (r : MergeRule) (l : List Claim) :
    mergeClaims m r (l.map Claim.counted) = mergeClaims m r l := by
  have hlist : (l.map Claim.counted).filter (·.eligible m) = (l.filter (·.eligible m)).map Claim.counted := by
    rw [List.filter_map]
    simp [Function.comp_def, Claim.eligible]
  have htop : ∀ l : List Claim, topLayer (l.map Claim.counted) = topLayer l := fun l => by
    simp [topLayer, List.any_map, Function.comp_def]
  have hlayer : ∀ (l : List Claim) (y : Layer),
      (l.map Claim.counted).filter (·.layer == y) = (l.filter (·.layer == y)).map Claim.counted := fun l y => by
    rw [List.filter_map]
    simp [Function.comp_def]
  have hpick : ∀ l : List Claim, pickLevel r (l.map Claim.counted) = pickLevel r l := fun l => by
    cases r with
    | highest => simp [pickLevel, List.foldl_map]
    | latest => cases h : l.getLast? <;> simp [pickLevel, h]
  unfold mergeClaims
  simp only [hlist, htop, hlayer, hpick]

theorem State.mergeOf_countTimers (s : State) (c : Circuit) : s.countTimers.mergeOf c = s.mergeOf c := by
  unfold State.mergeOf
  rw [State.circ_countTimers]
  show mergeCircuit s.cues.mode (s.eng c).attr.mergeRule _ = _
  unfold mergeCircuit
  simp only [mergeClaims_counted]

theorem KeepsTable.countTimers (s : State) : KeepsTable s s.countTimers := by
  refine ⟨fun ⟨hpool, hlists⟩ => ⟨?_, fun c => ?_⟩, fun h c => ?_, fun h => .of_settled (fun c he hw => ?_) fun ho c => ?_⟩
  · have : s.countTimers.poolInUse = s.poolInUse := by
      unfold State.poolInUse
      simp only [State.circ_countTimers, List.length_map]
    rw [this]; exact hpool
  · rw [State.circ_countTimers]
    refine ⟨by simpa using (hlists c).1, List.pairwise_map.mpr ?_⟩
    simpa [Claim.sameAs] using (hlists c).2
  · rw [State.circ_countTimers]; exact h c
  · rw [State.circ_countTimers] at he
    rw [State.mergeOf_countTimers, State.circ_countTimers]
    exact (h c).2 he hw
  · rw [State.circ_countTimers]; exact (h c).1 ho

theorem KeepsTable.claimTimerExpiry (s : State) : KeepsTable s s.claimTimerExpiry := by
  unfold State.claimTimerExpiry
  split
  · split
    · exact (KeepsTable.countTimers s).trans (.of_table (State.table_request _ rfl))
    · exact .countTimers s
  · exact .refl s

/-! ### Safety writes (R69) -/

/-- R69: a safety write publishes what it merges, and merges every circuit that it names. -/
theorem KeepsTable.safetyWrite (s : State) (k : Slot) (w : Circuit → Option (Option Nat)) (fade : Nat) :
    KeepsTable s (s.safetyWrite k w fade) := by
  have hentry : ∀ c : Circuit, ((s.safetyWrite k w fade).circ c).entry = (s.circ c).entry := fun c => by
    cases hc : w c with
    | none => rw [(s.safetyWrite_unnamed k fade hc).1]
    | some content => rw [(s.safetyWrite_named k fade hc rfl).1]; cases k <;> rfl
  refine ⟨fun h => h.congr rfl (s.safetyWrite_claims k w fade), fun h => ?_,
    fun h => .of_settled (fun c he hw => ?_) fun ho c => (hentry c).trans ((h c).1 ho)⟩
  · refine State.HeldLaw.deliver (s := s.writeSlots k w) (fun c => ?_) _
    rw [State.circ_writeSlots, State.writeSlots_eng]
    cases w c with
    | none => exact h c
    | some content => cases k <;> exact h c
  · unfold State.mergeOf
    rw [s.safetyWrite_attr]
    show _ = mergeCircuit s.cues.mode _ _
    cases hc : w c with
    | none =>
      rw [(s.safetyWrite_unnamed k fade hc).1]
      exact (h c).2 ((hentry c).symm.trans he) hw
    | some content => rw [(s.safetyWrite_named k fade hc rfl).1]; rfl

theorem KeepsTable.egressAssertion (s : State) : KeepsTable s s.egressAssertion := by
  unfold State.egressAssertion
  split
  · exact (KeepsTable.of_table (s.table_setEgress true)).trans (.safetyWrite _ _ _ _)
  · exact .refl s

theorem KeepsTable.egressRelease (s : State) : KeepsTable s s.egressRelease := by
  unfold State.egressRelease
  split
  · exact (KeepsTable.of_table (s.table_setEgress false)).trans (.safetyWrite _ _ _ _)
  · exact .refl s

theorem KeepsTable.lineLossTimerExpiry (s : State) : KeepsTable s s.lineLossTimerExpiry := by
  unfold State.lineLossTimerExpiry
  split
  · have declared :
        (State.report .lineLost { s with line := { s.line with lossDeclared := true, lossTimer := none } }).table = s.table := rfl
    exact (KeepsTable.of_table declared).trans (.safetyWrite _ _ _ _)
  · exact .refl s

theorem KeepsTable.declareOk (s : State) : KeepsTable s s.declareOk := by
  have ended : State.table { s with line := { s.line with lossDeclared := false } } = s.table := rfl
  exact (KeepsTable.of_table ended).trans (.safetyWrite _ _ _ _)

theorem KeepsTable.lineHeard (s : State) : KeepsTable s s.lineHeard := by
  unfold State.lineHeard
  split
  · exact (KeepsTable.declareOk s).trans (.of_table (State.table_startLossTimer _))
  · exact .of_table s.table_startLossTimer

/-! ### WRITE_CIRCUIT (R126, R127) -/

/-- R127: a stored record leaves the published copy, and every other circuit. -/
theorem State.eng_storeAttr (s : State) (c : Circuit) (a : Attr) (k : Circuit) :
    ((s.storeAttr c a).eng k).target = (s.eng k).target ∧ ((s.storeAttr c a).eng k).safety = (s.eng k).safety := by
  by_cases hk : k = c
  · subst hk
    have e : (s.storeAttr k a).eng k = EngineCircuit.recoded s.engine.masters { s.eng k with attr := a } := set_same _ _ _
    rw [e]; exact ⟨rfl, rfl⟩
  · have e : (s.storeAttr c a).eng k = s.eng k := set_other _ _ hk
    rw [e]; exact ⟨rfl, rfl⟩

theorem State.table_storeAttr (s : State) {c : Circuit} {a : Attr} (h : a.mergeRule = (s.eng c).attr.mergeRule) :
    (s.storeAttr c a).table = s.table := by
  refine State.table_congr rfl rfl rfl rfl rfl fun k => ⟨(s.eng_storeAttr c a k).1, (s.eng_storeAttr c a k).2, ?_⟩
  rw [State.storeAttr_attr]
  split
  · next hk => subst hk; exact h
  · rfl

theorem State.ruleWaits_request (s : State) (r : Request) (c : Circuit) :
    (s.request r).ruleWaits c = (s.ruleWaits c || decide (r.ruleCircuit = some c)) := by
  unfold State.ruleWaits
  rw [State.request_claims, List.any_append]
  cases r <;> simp [Request.ruleCircuit, Bool.beq_eq_decide_eq]

/-- R75: a new merge rule is stored together with the request for its merge. -/
theorem KeepsTable.storeAttr_request (s : State) (c : Circuit) (a : Attr) (sender : Nat) (adjusted : Bool) :
    KeepsTable s ((s.storeAttr c a).request (.mergeRule sender c adjusted)) where
  claim h := h.congr rfl fun _ => rfl
  held h k := by
    obtain ⟨ht, hs⟩ := s.eng_storeAttr c a k
    rw [State.request_eng, ht, hs]
    exact h k
  merge h := by
    refine .of_settled (fun k he hw => ?_) fun ho k => (h k).1 ho
    rw [State.ruleWaits_request] at hw
    obtain ⟨hw, hk⟩ := Bool.or_eq_false_iff.mp hw
    have hk : k ≠ c := fun e => by simp [Request.ruleCircuit, e] at hk
    have hm : ((s.storeAttr c a).request (.mergeRule sender c adjusted)).mergeOf k = s.mergeOf k := by
      unfold State.mergeOf
      rw [State.request_eng, State.storeAttr_attr, if_neg hk]
      rfl
    rw [hm]
    exact (h k).2 he hw

theorem KeepsTable.rewriteEgress (s : State) (c : Circuit) (old new : Attr) : KeepsTable s (s.rewriteEgress c old new) := by
  rcases s.rewriteEgress_cases c old new with e | ⟨w, fade, e⟩ <;> rw [e]
  · exact .refl s
  · exact .safetyWrite _ _ _ _

theorem KeepsTable.reqWriteCircuit (sender circuit : Nat) (f : CircuitFields) (s : State) :
    KeepsTable s (s.reqWriteCircuit sender circuit f) := by
  unfold State.reqWriteCircuit
  repeat' split
  · exact .of_table (State.table_complete _ _ _ _)
  · exact .of_table (State.table_complete _ _ _ _)
  · exact .of_table (State.table_complete _ _ _ _)
  · unfold State.storeCircuit
    dsimp only
    split
    · next hrule =>
      exact ((KeepsTable.of_table (s.table_storeAttr hrule)).trans (.rewriteEgress _ _ _ _)).trans
        (.of_table (State.table_complete _ _ _ _))
    · exact (KeepsTable.storeAttr_request s _ _ _ _).trans (.rewriteEgress _ _ _ _)

/-! ### Roster edits -/

theorem KeepsTable.reqEnrol (sender station controls privilege : Nat) (s : State) :
    KeepsTable s (s.reqEnrol sender station controls privilege) := by
  refine .of_table ?_
  unfold State.reqEnrol State.storeEntry State.replaceEntry State.insertEntry
  dsimp only
  repeat' split
  all_goals simp

theorem KeepsTable.reqDelete (sender station : Nat) (s : State) : KeepsTable s (s.reqDelete sender station) := by
  have emptied : ∀ u : State, KeepsTable u u.rosterEmptied := fun u => by
    have stopped : KeepsTable u { u with line := { u.line with lossTimer := none } } := .of_table rfl
    unfold State.rosterEmptied
    dsimp only
    repeat' split
    · exact stopped.trans (.declareOk _)
    · exact stopped
    · exact .refl u
  unfold State.reqDelete
  repeat' split
  · exact .of_table (State.table_complete _ _ _ _)
  · exact (KeepsTable.trans (.of_table (by simp)) (emptied _)).trans (.of_table (State.table_complete _ _ _ _))
  · exact .of_table (State.table_complete _ _ _ _)
  · exact .of_table (State.table_complete _ _ _ _)
  · exact .of_table (State.table_complete _ _ _ _)

/-! ### Requests and answers -/

theorem KeepsTable.serve (c : Instr) (s : State) : KeepsTable s (s.serve c) := by
  cases c with
  | enrol => exact .reqEnrol _ _ _ _ s
  | delete => exact .reqDelete _ _ s
  | writeCircuit => exact .reqWriteCircuit _ _ _ s
  | _ => exact .of_table (State.table_serve _ s (by simp) (by simp) (by simp))

theorem KeepsTable.takeRequest (sender tag : Nat) {work : State → State} (h : ∀ s, KeepsTable s (work s)) (s : State) :
    KeepsTable s (s.takeRequest sender tag work) := by
  unfold State.takeRequest
  split
  · exact (KeepsTable.of_table (s.table_beginRequest sender tag)).trans (h _)
  · exact .refl s

theorem KeepsTable.handRecord (sender : Nat) (r : Record) (s : State) : KeepsTable s (s.handRecord sender r) := by
  refine .takeRequest sender r.tag (fun u => ?_) s
  unfold State.checkRecord
  repeat' split
  · exact .of_table (by simp)
  · exact .of_table (by simp)
  · exact .of_table (by simp)
  · exact .of_table (by simp)
  · exact .serve _ u

theorem KeepsTable.takeContents (station controls : Nat) (takes : List Nat) (a : Answer) (s : State) :
    KeepsTable s (s.takeContents station controls takes a) := by
  cases a with
  | management r => exact .handRecord station r s
  | events l =>
    exact State.takeEvents_keeps (P := KeepsTable s) (fun u h => h.trans (.claimActionGrant u))
      (fun u h => h.trans (.of_table u.table_takeEventRecord)) (fun u r h => h.trans (.of_table (u.table_offerEvent r)))
      (fun u h => h.trans (.of_table (u.table_report _))) l takes s (.refl s)

theorem KeepsTable.judgeValid (n : Nat) (takes : List Nat) (a : Answer) (s : State) : KeepsTable s (s.judgeValid n takes a) := by
  unfold State.judgeValid
  split
  · exact (KeepsTable.trans (.of_table (by simp)) (.lineHeard _)).trans (.takeContents _ _ _ _ _)
  · split
    · unfold State.serviceAnswer
      split
      · exact .refl s
      · exact .handRecord _ _ s
    · unfold State.discovered
      split
      · exact .of_table (s.table_offerUnrouted _)
      · exact .refl s

@[simp] theorem State.table_judgeMiss (n : Nat) (s : State) : (s.judgeMiss n).table = s.table := by
  unfold State.judgeMiss State.miss
  dsimp only
  repeat' split
  · rfl
  · exact State.table_request (s.modifyEntry _ _) rfl
  · rfl
  · rfl

theorem KeepsTable.answerReceived (frame : Arrival) (s : State) : KeepsTable s (s.answerReceived frame) := by
  unfold State.answerReceived State.judgeFrame
  split
  · refine KeepsTable.trans ?_ (.of_table (State.table_nextVisit _))
    split
    · exact .judgeValid _ _ _ s
    · exact .of_table (by simp)
  · exact .refl s
  · exact .refl s

theorem State.table_answerTimeout (s : State) : s.answerTimeout.table = s.table := by
  unfold State.answerTimeout
  split <;> simp

end Sys2Proof.Machine
end

section
/-! PROOFS. Every step keeps the law of the claims (O4), the held law (O5) and the merge law (O6). -/

namespace Sys2Proof.Machine

/-- A step that keeps the law of the claims, and the two laws of the held values where LOADING is fresh. -/
structure KeepsTableAfresh (s t : State) : Prop where
  claim : s.ClaimLaw → t.ClaimLaw
  held : s.FreshInLoading → s.HeldLaw → t.HeldLaw
  merge : s.FreshInLoading → s.MergeLaw → t.MergeLaw

theorem KeepsTableAfresh.of_keeps {s t : State} (h : KeepsTable s t) : KeepsTableAfresh s t :=
  ⟨h.claim, fun _ => h.held, fun _ => h.merge⟩

/-! ### Power-on and the end of loading -/

theorem State.eng_enterLoading (s : State) (c : Circuit) : s.enterLoading.eng c = .initial .default := by
  simp [State.enterLoading, State.eng, State.reset]

/-- A table without claims, slots and entries keeps the merge law. -/
theorem State.MergeLaw.of_empty {s : State} (h : ∀ c : Circuit, s.circ c = .empty) : s.MergeLaw := fun c => by
  unfold State.mergeOf
  rw [h c]
  exact ⟨fun _ => rfl, fun _ _ => rfl⟩

/-- R51, R61, R76, R129: after power-on the pool is full, the lists are empty, and nothing is published. -/
theorem State.enterLoading_table (s : State) : s.enterLoading.ClaimLaw ∧ s.enterLoading.HeldLaw ∧ s.enterLoading.MergeLaw := by
  have hempty := s.circ_enterLoading
  refine ⟨⟨?_, fun c => ?_⟩, fun c => ?_, .of_empty hempty⟩
  · have : s.enterLoading.poolInUse = 0 := by
      unfold State.poolInUse
      simp [hempty, ClaimCircuit.empty]
    rw [this]; rfl
  · rw [hempty]; exact ⟨Nat.zero_le _, .nil⟩
  · rw [hempty, State.eng_enterLoading]; exact ⟨rfl, rfl⟩

theorem KeepsTableAfresh.enterLoading (s u : State) : KeepsTableAfresh s u.enterLoading :=
  let ⟨hc, hh, hm⟩ := u.enterLoading_table
  ⟨fun _ => hc, fun _ _ => hh, fun _ _ => hm⟩

/-- R173: the tables in place leave the claims, and nothing is published in a part that is fresh in LOADING. -/
theorem KeepsTableAfresh.install {s : State} (hp : s.part = .loading) (part : Part) (T : Tables) (valid : Bool) (x : Contacts) :
    KeepsTableAfresh s (s.install part T valid x) := by
  have hempty : s.FreshInLoading → ∀ c : Circuit, (s.install part T valid x).circ c = .empty := fun hf c => by
    show s.circ c = .empty
    rw [← hf hp]; exact s.circ_enterLoading c
  have heng : ∀ c : Circuit, ∃ a, (s.install part T valid x).eng c = .atEntry a := fun c =>
    ⟨T.attrs[c], getElem_mapTable _ _ c⟩
  refine ⟨fun h => h.congr rfl fun _ => rfl, fun hf _ c => ?_, fun hf _ => .of_empty (hempty hf)⟩
  obtain ⟨a, ha⟩ := heng c
  rw [hempty hf, ha]
  exact ⟨rfl, rfl⟩

theorem KeepsTableAfresh.trans {s t u : State} (h : KeepsTableAfresh s t) (k : KeepsTable t u) : KeepsTableAfresh s u :=
  ⟨k.claim ∘ h.claim, fun hf => k.held ∘ h.held hf, fun hf => k.merge ∘ h.merge hf⟩

theorem KeepsTable.egressSample (s : State) : KeepsTable s s.egressSample := by
  unfold State.egressSample
  split
  · exact .safetyWrite _ _ _ _
  · exact .refl s

theorem KeepsTable.scheduleAndSample (b : Bool) (s : State) : KeepsTable s (s.scheduleAndSample b) := by
  cases b with
  | true => exact (KeepsTable.of_table (s := s) s.startSchedule.table_transmitStart).trans (.egressSample _)
  | false => exact (KeepsTable.egressSample s).trans (.of_table rfl)

theorem State.table_powerOnRecall (s : State) : s.powerOnRecall.table = s.table := by
  unfold State.powerOnRecall
  split
  · exact s.table_request rfl
  · rfl

theorem KeepsTableAfresh.loadingEnd (x : Contacts) (s : State) : KeepsTableAfresh s (s.loadingEnd x) := by
  unfold State.loadingEnd
  split
  · next hp =>
    unfold State.enterRunning State.enterUnconfigured
    split
    · next T _ =>
      exact ((KeepsTableAfresh.install hp.2 .running T true x).trans (.scheduleAndSample x.builtFirst _)).trans
        (.of_table (by simp [State.table_powerOnRecall]))
    · exact (((KeepsTableAfresh.install hp.2 .unconfigured _ false x).trans (.of_table (State.table_report _ _))).trans
        (.egressSample _)).trans (.of_table (State.table_visitFrom _ _))
  · exact .of_keeps (.refl s)

/-! ### Every step -/

/-- POLL_SENT restarts the part, or leaves what the laws read. -/
theorem KeepsTableAfresh.pollSent (s : State) : KeepsTableAfresh s s.pollSent := by
  unfold State.pollSent
  split
  · split
    · exact .enterLoading s s
    · refine .of_keeps (.of_table ?_)
      unfold State.replySent
      split <;> rfl
  · exact .of_keeps (.refl s)
  · exact .of_keeps (.refl s)

theorem exec_keepsTable (c : Instr) (s : State) : ∃ t, exec c s = .next t ∧ KeepsTableAfresh s t := by
  cases hf : requestForm c with
  | some f => exact ⟨_, exec_request hf s, .of_keeps (.takeRequest _ _ (.serve c) s)⟩
  | none =>
    cases c with
    | powerOn => exact ⟨_, rfl, .enterLoading s _⟩
    | powerLoss =>
      refine ⟨_, rfl, ?_⟩
      unfold State.powerLoss
      split
      · exact .enterLoading s _
      · exact .of_keeps (.refl s)
    | loadingEnd => exact ⟨_, rfl, .loadingEnd _ s⟩
    | pollSent => exact ⟨_, rfl, .pollSent s⟩
    | answerReceived => exact ⟨_, rfl, .of_keeps (.answerReceived _ s)⟩
    | answerWindowTimeout => exact ⟨_, rfl, .of_keeps (.of_table s.table_answerTimeout)⟩
    | strayStationFrame => exact ⟨_, rfl, .of_keeps (.refl s)⟩
    | lineLossTimerExpiry => exact ⟨_, rfl, .of_keeps (.lineLossTimerExpiry s)⟩
    | egressAssertion => exact ⟨_, rfl, .of_keeps (.egressAssertion s)⟩
    | egressRelease => exact ⟨_, rfl, .of_keeps (.egressRelease s)⟩
    | cueInputDebounced => exact ⟨_, rfl, .of_keeps (.of_table (State.table_cueInput _ _ s))⟩
    | takeEventRecord => exact ⟨_, rfl, .of_keeps (.of_table s.table_takeEventRecord)⟩
    | claimActionGrant => exact ⟨_, rfl, .of_keeps (.claimActionGrant s)⟩
    | absenceGrant => exact ⟨_, rfl, .of_keeps (.absenceGrant s)⟩
    | stationRemovalGrant => exact ⟨_, rfl, .of_keeps (.stationRemovalGrant s)⟩
    | claimTimerExpiry => exact ⟨_, rfl, .of_keeps (.claimTimerExpiry s)⟩
    | expiryGrant => exact ⟨_, rfl, .of_keeps (.expiryGrant s)⟩
    | setLevelGrant => exact ⟨_, rfl, .of_keeps (.setLevelGrant s)⟩
    | releaseLayerGrant => exact ⟨_, rfl, .of_keeps (.releaseLayerGrant s)⟩
    | mergeRuleGrant => exact ⟨_, rfl, .of_keeps (.mergeRuleGrant s)⟩
    | recallGrant => exact ⟨_, rfl, .of_keeps (.recallGrant s)⟩
    | recallCompletion => exact ⟨_, rfl, .of_keeps (.recallCompletion s)⟩
    | releaseGrant => exact ⟨_, rfl, .of_keeps (.releaseGrant s)⟩
    | captureGrant => exact ⟨_, rfl, .of_keeps (.captureGrant s)⟩
    | cueGrant => exact ⟨_, rfl, .of_keeps (.cueGrant s)⟩
    | cueCompletion => exact ⟨_, rfl, .of_keeps (.cueCompletion s)⟩
    | modeChangeGrant => exact ⟨_, rfl, .of_keeps (.modeChangeGrant s)⟩
    | fadeStepTimerExpiry => exact ⟨_, rfl, .of_keeps (.of_table s.table_fadeStep)⟩
    | levelScheduleTimerExpiry => exact ⟨_, rfl, .of_keeps (.of_table s.table_levelSchedule)⟩
    | statusScheduleTimerExpiry => exact ⟨_, rfl, .of_keeps (.of_table s.table_statusSchedule)⟩
    | frameTransmitStart => exact ⟨_, rfl, .of_keeps (.of_table s.table_transmitStart)⟩
    | frameTransmitEnd => exact ⟨_, rfl, .of_keeps (.of_table s.table_transmitEnd)⟩
    | returnTimeout => exact ⟨_, rfl, .of_keeps (.of_table s.table_returnTimeout)⟩
    | loopFrameReceived => exact ⟨_, rfl, .of_keeps (.of_table (s.table_loopFrameReceived _))⟩
    | saveCompletion => exact ⟨_, rfl, .of_keeps (.of_table (s.table_saveCompletion _))⟩
    | verifyCompletion => exact ⟨_, rfl, .of_keeps (.of_table s.table_verifyCompletion)⟩
    | _ => cases hf

/-- `exec_keepsTable` for a step: the queue is no part of what the laws read. -/
theorem step_keepsTable {s t : State} (h : step s = .next t) : KeepsTableAfresh s t := by
  unfold step at h
  split at h
  · cases h
    exact .of_keeps (.refl s)
  · next c rest _ =>
    obtain ⟨u, hu, keeps⟩ := exec_keepsTable c (s.withPending rest)
    obtain rfl : u = t := Host.Outcome.next.inj (hu.symm.trans h)
    have queue := KeepsTable.of_table (s.table_withPending rest)
    exact ⟨keeps.claim ∘ queue.claim, fun hf => keeps.held (hf.withPending rest) ∘ queue.held,
      fun hf => keeps.merge (hf.withPending rest) ∘ queue.merge⟩

/-- Settles O4: placements take a record for an added claim alone, removals return each record, and no other work touches a list. -/
theorem stepKeepsTheClaimLaw : Obligations.StepKeepsTheClaimLaw := fun _ _ hs h => (step_keepsTable h).claim hs

/-- Settles O5: held values and published copy change together, in one delivery. -/
theorem stepKeepsHeldTargets : Obligations.StepKeepsHeldTargets := fun _ _ hf hs h => (step_keepsTable h).held hf hs

/-- Settles O6: work on claims and the mode enters its circuits, a new merge rule waits, and a slot is merged as it is written. -/
theorem stepKeepsTheMergeLaw : Obligations.StepKeepsTheMergeLaw := fun _ _ hf hs h => (step_keepsTable h).merge hf hs

end Sys2Proof.Machine
end

section
/-! PROOFS. The state after power-on (O2), placements (O28, O29), merges (O30), and the claim timer (O34). -/

namespace Sys2Proof.Machine

/-! ### The state after power-on -/

theorem State.tables_reset : State.reset.tables = Tables.default := by
  have hattrs : mapTable (fun _ e => e.attr) State.reset.engine.circuits = Vector.replicate 512 Attr.default :=
    table_ext fun i => by
      rw [getElem_mapTable]
      simp [State.reset, EngineCircuit.initial]
  unfold State.tables Tables.default
  rw [hattrs]; rfl

/-- R173: the defaults keep the limits of the live tables. -/
theorem Tables.good_default : Tables.default.Good := by
  have each : ∀ {α : Type} {n : Nat} {a : α} {P : α → Prop}, P a → ∀ x ∈ (Vector.replicate n a).toList, P x :=
    fun h x hx => by
      rw [Vector.toList_replicate] at hx
      rw [List.eq_of_mem_replicate hx]; exact h
  have none_used : ∀ {α β : Type} {n : Nat} {a : α} {f : α → List β}, f a = [] →
      ((Vector.replicate n a).toList.map fun x => (f x).length).sum = 0 := fun h => by
    rw [Vector.toList_replicate, List.map_replicate, h]; simp
  refine ⟨by simp [Settings.Good, Tables.default, Settings.default, storedMasks],
    ⟨.nil, Nat.zero_le _, fun e he => absurd he List.not_mem_nil⟩,
    each (by simp [Window.Good, Window.default, Config.stationMax]),
    ⟨each ⟨.nil, Nat.zero_le _⟩, ?_⟩,
    ⟨each ⟨Nat.zero_le _, .nil, fun e he => absurd he List.not_mem_nil⟩, ?_⟩,
    each (by simp [Attr.Good, Attr.default])⟩
  · exact (none_used (f := id) rfl).trans_le (Nat.zero_le _)
  · exact (none_used (f := SceneRecord.entries) rfl).trans_le (Nat.zero_le _)

theorem State.rangeLaw_reset : State.reset.RangeLaw := by
  have hempty : ∀ c : Circuit, State.reset.circ c = .empty := State.reset.circ_enterLoading
  have heng : ∀ c : Circuit, State.reset.eng c = .initial .default := State.reset.eng_enterLoading
  have nothing : ∀ {α : Type} {P : α → Prop}, ∀ a ∈ ([] : List α), P a := fun a ha => absurd ha List.not_mem_nil
  refine ⟨State.tables_reset ▸ Tables.good_default, nothing, nothing, nothing, fun v hv => ?_, fun c => ?_⟩
  · have hv' : v ∈ (Vector.replicate 4 1000).toList := hv
    rw [Vector.toList_replicate] at hv'
    exact (List.eq_of_mem_replicate hv').le
  · rw [hempty, heng]
    exact ⟨nothing, nofun, nofun, Nat.zero_le _, Nat.zero_le _, Nat.zero_le _, Nat.zero_le _, Nat.zero_le _⟩

/-- Settles O2: the state after power-on is an entry to LOADING, with empty queues and the defaults in its tables. -/
theorem resetMeetsTheLaws : Obligations.ResetMeetsTheLaws := by
  obtain ⟨hclaim, hheld, hmerge⟩ := State.reset.enterLoading_table
  obtain ⟨hegress, hloss, hroster, habsence⟩ := State.reset.enterLoading_laws
  exact ⟨fun _ => rfl, hclaim, hheld, hmerge, hegress, hloss, habsence, hroster,
    ⟨Nat.zero_le _, Nat.zero_le _, .nil, Nat.zero_le _, .nil, Nat.zero_le _, .nil, Nat.zero_le _, Nat.zero_le _, Nat.zero_le _⟩,
    ⟨fun _ => ⟨rfl, rfl, rfl⟩, Nat.zero_le _, .nil⟩, State.rangeLaw_reset⟩

/-! ### Placements (Table 3-4) -/

/-- R54. -/
theorem placementOf_held (free : Nat) {cl : Claim} {l : List Claim} (h : ∃ x ∈ l, x.layer = cl.layer ∧ x.owner = cl.owner) :
    placementOf free cl l = .replaced := by
  obtain ⟨x, hx, hs⟩ := h
  have hany : l.any (·.sameAs cl) = true := List.any_eq_true.mpr ⟨x, hx, Claim.sameAs_iff.mpr hs⟩
  unfold placementOf
  rw [hany]; rfl

/-- R55 to R57: a placement of a new layer and owner. -/
theorem placementOf_new (free : Nat) {cl : Claim} {l : List Claim} (h : ∀ x ∈ l, ¬(x.layer = cl.layer ∧ x.owner = cl.owner)) :
    placementOf free cl l =
      if l.length < 8 then (if 0 < free then .added else .refusedPool)
      else if l.any (·.layer.rank ≤ cl.layer.rank) then .evicted else .refusedList := by
  have hany : l.any (·.sameAs cl) = false := List.any_eq_false.mpr fun x hx => by
    rw [Claim.sameAs_eq_false_iff.mpr (h x hx)]; decide
  unfold placementOf
  rw [hany]; rfl

/-- What a placement leaves of pool, flags and circuit, by its outcome. -/
theorem State.placeOne_outcome (s : State) (c : Circuit) (cl : Claim) {p : Placement} (h : s.placementOn c cl = p) :
    (s.placeOne c cl).circ c = (s.circ c).placed p cl ∧
      (s.placeOne c cl).claims.poolFree = (if p = .added then s.claims.poolFree - 1 else s.claims.poolFree) ∧
      (s.placeOne c cl).mgmt =
        if p = .refusedPool then { s.mgmt with flags := s.mgmt.flags ||| Flag.claimPoolFull.word } else s.mgmt := by
  subst h
  exact ⟨s.circ_placeOne_self c cl, by rw [State.placeOne_eq], by rw [State.placeOne_eq]⟩

/-- R57: a refused placement leaves the claims, and reports CLAIM_POOL_FULL when it is refused for the pool. -/
theorem State.placeOne_refused {s : State} {c : Circuit} {cl : Claim} (h : (s.placementOn c cl).refused = true) :
    s.placeOne c cl =
      if s.placementOn c cl = .refusedPool then { s with mgmt := { s.mgmt with flags := s.mgmt.flags ||| 0x0400#16 } }
      else s := by
  have hset : s.claims.circuits.set c (s.circ c) = s.claims.circuits := table_ext fun k => by
    by_cases hk : k = c
    · rw [hk, set_same]; rfl
    · rw [set_other _ _ hk]
  rw [State.placeOne_eq]
  cases hp : s.placementOn c cl with
  | refusedPool | refusedList => simp only [ClaimCircuit.placed, hset]; rfl
  | replaced | added | evicted => rw [hp] at h; cases h

/-- Settles O28: the placement is an addition, which takes a record. -/
theorem placementTakesAFreeRecord : Obligations.PlacementTakesAFreeRecord := fun s c cl hno hroom hfree => by
  have hp : s.placementOn c cl = .added := by
    unfold State.placementOn
    rw [placementOf_new _ hno, if_pos hroom, if_pos (show 0 < s.claims.poolFree from hfree)]
  rw [State.placeOne_eq, hp]; rfl

/-- R54, R55: a placement on a list that holds the layer and owner, or has room while the pool has a record, puts the claim at the
tail. -/
theorem State.placeOne_taken {s : State} {c : Circuit} {cl : Claim} (hlist : ListLaw (s.circ c).claims)
    (h : (∃ x ∈ (s.circ c).claims, x.layer = cl.layer ∧ x.owner = cl.owner) ∨
      ((s.circ c).claims.length < 8 ∧ 0 < s.claims.poolFree)) :
    (s.placeOne c cl).circ c =
        { s.circ c with claims := (s.circ c).claims.filter (fun x => !x.sameAs cl) ++ [cl], entry := some cl.fade } ∧
      (s.placementOn c cl).refused = false ∧ (s.placeOne c cl).mgmt = s.mgmt := by
  by_cases hheld : ∃ x ∈ (s.circ c).claims, x.layer = cl.layer ∧ x.owner = cl.owner
  · have hp : s.placementOn c cl = .replaced := placementOf_held _ hheld
    obtain ⟨hcirc, -, hmgmt⟩ := s.placeOne_outcome c cl hp
    refine ⟨?_, by rw [hp]; rfl, hmgmt⟩
    rw [hcirc, ClaimCircuit.placed, hlist.eraseP_eq_filter]
  · have hno : ∀ x ∈ (s.circ c).claims, ¬(x.layer = cl.layer ∧ x.owner = cl.owner) := fun x hx hs => hheld ⟨x, hx, hs⟩
    obtain ⟨hroom, hfree⟩ := h.resolve_left hheld
    have hp : s.placementOn c cl = .added := by
      unfold State.placementOn
      rw [placementOf_new _ hno, if_pos hroom, if_pos hfree]
    have hkeep : (s.circ c).claims.filter (fun x => !x.sameAs cl) = (s.circ c).claims :=
      List.filter_eq_self.mpr fun x hx => congrArg not (Claim.sameAs_eq_false_iff.mpr (hno x hx))
    obtain ⟨hcirc, -, hmgmt⟩ := s.placeOne_outcome c cl hp
    refine ⟨?_, by rw [hp]; rfl, hmgmt⟩
    rw [hcirc, ClaimCircuit.placed, hkeep]

/-- R57: a placement of a new layer and owner on a list with room, while the pool is empty. -/
theorem State.placeOne_without_record {s : State} {c : Circuit} {cl : Claim}
    (hno : ∀ x ∈ (s.circ c).claims, ¬(x.layer = cl.layer ∧ x.owner = cl.owner)) (hroom : (s.circ c).claims.length < 8)
    (hfree : s.claims.poolFree = 0) :
    s.placementOn c cl = .refusedPool ∧
      s.placeOne c cl = { s with mgmt := { s.mgmt with flags := s.mgmt.flags ||| 0x0400#16 } } := by
  have hp : s.placementOn c cl = .refusedPool := by
    unfold State.placementOn
    rw [placementOf_new _ hno, if_pos hroom, hfree]; rfl
  exact ⟨hp, by rw [State.placeOne_refused (by rw [hp]; rfl), if_pos hp]⟩

/-- R56: a full list without the layer and owner gives up its oldest claim at or below the new layer, or refuses. -/
theorem State.placeOne_full {s : State} {c : Circuit} {cl : Claim}
    (hno : ∀ x ∈ (s.circ c).claims, ¬(x.layer = cl.layer ∧ x.owner = cl.owner)) (hfull : 8 ≤ (s.circ c).claims.length) :
    (∃ before victim after, (s.circ c).claims = before ++ victim :: after ∧ victim.layer.code ≤ cl.layer.code ∧
        (∀ x ∈ before, cl.layer.code < x.layer.code) ∧
        (s.placeOne c cl).circ c = { s.circ c with claims := before ++ after ++ [cl], entry := some cl.fade } ∧
        (s.placeOne c cl).claims.poolFree = s.claims.poolFree ∧ (s.placeOne c cl).mgmt = s.mgmt) ∨
      ((∀ x ∈ (s.circ c).claims, cl.layer.code < x.layer.code) ∧ s.placeOne c cl = s) := by
  have hp := placementOf_new s.claims.poolFree hno
  rw [if_neg (Nat.not_lt.mpr hfull)] at hp
  cases hlow : (s.circ c).claims.any (·.layer.rank ≤ cl.layer.rank) with
  | true =>
    rw [hlow, if_pos rfl] at hp
    obtain ⟨x, hx, hxlow⟩ := List.any_eq_true.mp hlow
    obtain ⟨victim, before, after, hbefore, hvictim, hlist, herase⟩ :=
      List.exists_of_eraseP (p := (·.layer.rank ≤ cl.layer.rank)) hx hxlow
    obtain ⟨hcirc, hpool, hmgmt⟩ := s.placeOne_outcome c cl hp
    refine .inl ⟨before, victim, after, hlist, of_decide_eq_true hvictim, fun y hy => ?_, ?_, hpool, hmgmt⟩
    · exact Nat.not_le.mp fun hle => hbefore y hy (decide_eq_true hle)
    · rw [hcirc, ClaimCircuit.placed, herase]
  | false =>
    rw [hlow] at hp
    refine .inr ⟨fun x hx => ?_, ?_⟩
    · exact Nat.not_le.mp fun hle => List.any_eq_false.mp hlow x hx (decide_eq_true hle)
    · rw [State.placeOne_refused (by unfold State.placementOn; rw [hp]; rfl)]
      unfold State.placementOn
      rw [hp]; rfl

/-- Settles O29: Table 3-4, outcome by outcome. -/
theorem placementsReplaceEvictOrRefuse : Obligations.PlacementsReplaceEvictOrRefuse := fun s c cl hlist => by
  refine ⟨fun k hk => s.circ_placeOne_other cl hk, fun hheld => ?_, State.placeOne_full,
    fun hno hroom hfree => (State.placeOne_without_record hno hroom hfree).2⟩
  obtain ⟨hcirc, -, hmgmt⟩ := State.placeOne_taken hlist (.inl hheld)
  exact ⟨hcirc, (s.placeOne_outcome c cl (placementOf_held s.claims.poolFree hheld)).2.1, hmgmt⟩

/-! ### Merges (R59, R60, R62) -/

/-- The running maximum over a list is an upper bound, and the start or a level of the list. -/
theorem foldl_max_level (l : List Claim) (m : Nat) :
    m ≤ l.foldl (fun m cl => max m cl.level) m ∧ (∀ cl ∈ l, cl.level ≤ l.foldl (fun m cl => max m cl.level) m) ∧
      (l.foldl (fun m cl => max m cl.level) m = m ∨ ∃ cl ∈ l, l.foldl (fun m cl => max m cl.level) m = cl.level) := by
  induction l generalizing m with
  | nil => exact ⟨le_rfl, fun _ h => absurd h List.not_mem_nil, .inl rfl⟩
  | cons y rest ih =>
    obtain ⟨hm, hall, hheld⟩ := ih (max m y.level)
    refine ⟨(le_max_left _ _).trans hm, fun cl hcl => ?_, ?_⟩
    · rcases List.mem_cons.mp hcl with rfl | hcl
      · exact (le_max_right _ _).trans hm
      · exact hall cl hcl
    · rcases hheld with h | ⟨cl, hcl, h⟩
      · rcases max_choice m y.level with hc | hc
        · exact .inl (h.trans hc)
        · exact .inr ⟨y, List.mem_cons_self, h.trans hc⟩
      · exact .inr ⟨cl, List.mem_cons_of_mem _ hcl, h⟩

/-- R60: HIGHEST takes a level that is held, from a list with a claim, and no claim of the list is higher. -/
theorem pickLevel_highest {l : List Claim} {x : Claim} (hx : x ∈ l) :
    (∃ cl ∈ l, pickLevel .highest l = cl.level) ∧ ∀ cl ∈ l, cl.level ≤ pickLevel .highest l := by
  obtain ⟨-, hall, hheld⟩ := foldl_max_level l 0
  refine ⟨?_, hall⟩
  rcases hheld with h | h
  · have hle := hall x hx
    exact ⟨x, hx, show l.foldl _ 0 = x.level by omega⟩
  · exact h

/-- R60: LATEST takes the level of the last claim. -/
theorem pickLevel_latest {l : List Claim} {x : Claim} (hx : x ∈ l) : some (pickLevel .latest l) = l.getLast?.map (·.level) := by
  unfold pickLevel
  cases h : l.getLast? with
  | none => rw [List.getLast?_eq_none_iff.mp h] at hx; cases hx
  | some y => rfl

/-- R59: the winning layer is the highest at which a claim stands. -/
theorem topLayer_of_highest {l : List Claim} {top : Claim} (ht : top ∈ l) (h : ∀ cl ∈ l, cl.layer.code ≤ top.layer.code) :
    topLayer l = some top.layer := by
  have found : l.any (·.layer == top.layer) = true := List.any_eq_true.mpr ⟨top, ht, by simp⟩
  have above : ∀ y : Layer, top.layer.code < y.code → l.any (·.layer == y) = false := fun y hy =>
    List.any_eq_false.mpr fun cl hcl he => by
      have := h cl hcl
      rw [eq_of_beq he] at this
      omega
  unfold topLayer
  cases hl : top.layer with
  | scene => rw [hl] at found; rw [found]; rfl
  | house => rw [hl] at found above; rw [above .scene (by decide), found]; rfl
  | work => rw [hl] at found above; rw [above .scene (by decide), above .house (by decide), found]; rfl

/-- R59: the merge of a list in which a claim of the highest eligible layer stands. -/
theorem mergeClaims_of_highest {mode : Mode} (rule : MergeRule) {l : List Claim} {top : Claim} (ht : top ∈ l)
    (he : top.eligible mode = true) (h : ∀ cl ∈ l, cl.eligible mode = true → cl.layer.code ≤ top.layer.code) :
    mergeClaims mode rule l = (pickLevel rule (l.filter (·.layer == top.layer)), top.layer.winner) := by
  have htop : topLayer (l.filter (·.eligible mode)) = some top.layer :=
    topLayer_of_highest (List.mem_filter.mpr ⟨ht, he⟩) fun cl hcl =>
      let ⟨hcl, hel⟩ := List.mem_filter.mp hcl
      h cl hcl hel
  have hsame : (l.filter (·.eligible mode)).filter (·.layer == top.layer) = l.filter (·.layer == top.layer) := by
    rw [List.filter_filter]
    refine List.filter_congr fun cl _ => ?_
    cases hl : cl.layer == top.layer with
    | false => rfl
    | true =>
      have : cl.eligible mode = top.eligible mode := by simp [Claim.eligible, eq_of_beq hl]
      rw [this, he]; rfl
  unfold mergeClaims
  simp only [htop, hsame]

/-- R59: without an eligible claim nothing is asked for. -/
theorem mergeClaims_of_none {mode : Mode} (rule : MergeRule) {l : List Claim} (h : ∀ cl ∈ l, cl.eligible mode = false) :
    mergeClaims mode rule l = (0, .none) := by
  have hnil : l.filter (·.eligible mode) = [] := List.filter_eq_nil_iff.mpr fun cl hcl => by simp [h cl hcl]
  unfold mergeClaims
  rw [hnil]; rfl

/-- Settles O30: the slots come first; then the highest eligible claim decides the layer, and the rule the level. -/
theorem mergePicksTheHighestLayer : Obligations.MergePicksTheHighestLayer := fun mode rule t => by
  refine ⟨fun hslot => ?_, fun he hl => ?_⟩
  · cases he : t.egress with
    | some v => exact mergeCircuit_of_egress mode rule he
    | none =>
      cases hl : t.loss with
      | some v =>
        rw [mergeCircuit_of_loss mode rule hl, he, max_comm]; rfl
      | none => simp [he, hl] at hslot
  · have hmerge : mergeCircuit mode rule t = mergeClaims mode rule t.claims := by
      unfold mergeCircuit
      rw [he, hl]
    have hcounts : ∀ cl : Claim, (!(cl.layer == .work && mode == .performance)) = cl.eligible mode := fun cl => by
      rw [Bool.and_comm]; rfl
    simp only [hcounts, hmerge]
    refine ⟨mergeClaims_of_none rule, fun top ht hel hhigh => ?_⟩
    have hmem : top ∈ t.claims.filter (·.layer == top.layer) := List.mem_filter.mpr ⟨ht, by simp⟩
    rw [mergeClaims_of_highest rule ht hel hhigh]
    refine ⟨rfl, fun hr => ?_, fun hr => ?_⟩
    · rw [hr]; exact pickLevel_latest hmem
    · obtain ⟨⟨cl, hcl, hheld⟩, hall⟩ := pickLevel_highest hmem
      obtain ⟨hcl, hlayer⟩ := List.mem_filter.mp hcl
      rw [hr]
      exact ⟨⟨cl, hcl, eq_of_beq hlayer, hheld⟩, fun y hy hl => hall y (List.mem_filter.mpr ⟨hy, by simp [hl]⟩)⟩

/-! ### The claim timer (R71, R72) -/

theorem State.marksExpired_iff (s : State) :
    s.marksExpired = true ↔ ∃ c : Circuit, ∃ cl ∈ (s.circ c).claims, cl.kind = .timed 1 := by
  simp [State.marksExpired, Claim.expiresNow]

/-- Settles O34: every claim is counted, and an expiry is requested when one of them expires and none is requested yet. -/
theorem claimTimerCountsDown : Obligations.ClaimTimerCountsDown := fun s hp => by
  have hexec : s.claimTimerExpiry =
      if s.marksExpired && !s.claims.order.contains .expiry then s.countTimers.request .expiry else s.countTimers := by
    unfold State.claimTimerExpiry
    rw [if_pos (State.active_of_ne hp)]
  have hcirc : ∀ c : Circuit, s.claimTimerExpiry.circ c = s.countTimers.circ c := fun c => by
    rw [hexec]; split <;> rfl
  refine ⟨_, rfl, fun c => ?_, ?_, ?_⟩
  · rw [hcirc, State.circ_countTimers]
    refine congrArg (fun l => { s.circ c with claims := l }) (List.map_congr_left fun cl _ => ?_)
    unfold Claim.counted
    cases cl.kind <;> rfl
  · have hcond : (s.marksExpired && !s.claims.order.contains .expiry) = true ↔
        (∃ c : Circuit, ∃ cl ∈ (s.circ c).claims, cl.kind = .timed 1) ∧ Request.expiry ∉ s.claims.order := by
      rw [Bool.and_eq_true, State.marksExpired_iff]
      simp
    rw [hexec]
    by_cases h : (s.marksExpired && !s.claims.order.contains .expiry) = true
    · rw [if_pos h, if_pos (hcond.mp h)]; rfl
    · rw [if_neg h, if_neg fun k => h (hcond.mpr k)]; rfl
  · rw [hexec]; split <;> rfl

end Sys2Proof.Machine
end

section
/-! PROOFS. The close of a set on one circuit, releases (O43), and SET_LEVEL and RELEASE_LAYER with their grants (O35). -/

namespace Sys2Proof.Machine

/-! ### The close of a set on one circuit (R64) -/

/-- R64: the close of a set leaves a circuit that is not entered. -/
theorem State.closeSet_unentered {s : State} {c : Circuit} (h : (s.circ c).entry = none) :
    s.closeSet.circ c = s.circ c ∧ s.closeSet.eng c = s.eng c := by
  have hclosing : s.closing c = none := by
    unfold State.closing
    rw [h]
  rw [State.circ_closeSet, State.eng_closeSet, hclosing]
  refine ⟨?_, rfl⟩
  show { s.circ c with entry := none } = s.circ c
  rw [← h]

/-- R64: the close of a set on a circuit that it has entered, since a state with the same held values, slots and published copy. -/
theorem CircuitClosed.of_entered {s u : State} {c : Circuit} {claims : List Claim} {fade : Nat}
    (hcirc : u.circ c = { s.circ c with claims := claims, entry := some fade }) (hengine : u.engine = s.engine) :
    CircuitClosed s u.closeSet c claims (some fade) := by
  have heng : u.eng c = s.eng c := by unfold State.eng; rw [hengine]
  have hmerge : u.mergeOf c = mergeCircuit u.cues.mode (s.eng c).attr.mergeRule { s.circ c with claims := claims } := by
    unfold State.mergeOf
    rw [hcirc, heng]; rfl
  have hclosing : u.closing c = u.remerge c fade := by
    unfold State.closing
    rw [hcirc]
  unfold CircuitClosed
  dsimp only
  rw [State.closeSet_cues, State.circ_closeSet, State.eng_closeSet, hclosing, State.circ_held_remerge, hengine, heng]
  unfold State.remerge
  rw [hmerge, hcirc]
  generalize mergeCircuit _ _ _ = merged
  refine ⟨rfl, ?_⟩
  by_cases heq : merged = ((s.circ c).target, (s.circ c).winner)
  · rw [if_pos heq, if_pos heq.symm]
  · rw [if_neg heq, if_neg (Ne.symm heq)]

/-- What the close of a set does to a circuit is read from the circuit, its published copy and the mode. -/
theorem CircuitClosed.congr {s t t' : State} {c : Circuit} {claims : List Claim} {fade : Option Nat}
    (h : CircuitClosed s t c claims fade) (hc : t'.claims = t.claims) (he : t'.engine = t.engine) (hq : t'.cues = t.cues) :
    CircuitClosed s t' c claims fade := by
  unfold CircuitClosed State.circ State.eng at *
  rw [hc, he, hq]; exact h

theorem RemovedAndClosed.congr {s t t' : State} {gone : Circuit → Claim → Bool} (h : RemovedAndClosed s t gone)
    (hc : t'.claims = t.claims) (he : t'.engine = t.engine) (hq : t'.cues = t.cues) : RemovedAndClosed s t' gone := by
  obtain ⟨hset, hpool, hall⟩ := h
  exact ⟨by rw [hc, hset], by rw [hc, hpool], fun c => (hall c).congr hc he hq⟩

@[simp] theorem State.complete_circ (s : State) (n : Nat) (r : Result) (p : List Byte) (c : Circuit) :
    (s.complete n r p).circ c = s.circ c := by
  unfold State.circ; rw [State.complete_claims]

@[simp] theorem State.complete_eng (s : State) (n : Nat) (r : Result) (p : List Byte) (c : Circuit) :
    (s.complete n r p).eng c = s.eng c := by
  unfold State.eng; rw [State.complete_engine]

/-! ### Releases (R91) -/

/-- Settles O43: the grant is a removal of one layer in a set that closes; the outcome comes after it. -/
theorem releasesClearTheSceneLayer : Obligations.ReleasesClearTheSceneLayer := fun s a rest h => by
  have hgrant : s.releaseGrant = s.takeHead.grantRelease a := by
    unfold State.releaseGrant
    rw [State.grantable_of_grants h]
  have hremoved : RemovedAndClosed s s.takeHead.releaseScenes.closeSet fun _ cl => cl.layer == .scene :=
    .of_closeSet h.1.2.2 (fun c => s.takeHead.circ_removeWhere inSceneLayer c) rfl rfl rfl
  have hfeedback : s.takeHead.grantRelease a =
      { s.takeHead.releaseScenes.closeSet with feedback := (s.takeHead.grantRelease a).feedback } :=
    State.settle_feedback_only s.takeHead.releaseScenes.closeSet a.station a.control a.feedback false _
  refine ⟨_, congrArg Host.Outcome.next hgrant, ?_, hremoved.congr ?_ ?_ ?_, ?_, ?_, ?_, fun hp hh => ?_⟩
  · rw [hfeedback]
    exact (State.closeSet_order _).trans (State.takeHead_order h)
  · rw [hfeedback]
  · rw [hfeedback]
  · rw [hfeedback]
  · rw [hfeedback]; rfl
  · rw [hfeedback]; rfl
  · rw [hfeedback]; rfl
  · unfold State.grantRelease State.accept
    rw [hp]
    exact State.shotOf_outcome_self true hh

/-! ### Requests that wait at the arbiter (R182, R184) -/

/-- R182: the requests in progress of other stations stay. -/
theorem State.tagOf_beginRequest_other (s : State) {sender other : Nat} (tag : Nat) (h : other ≠ sender) :
    (s.beginRequest sender tag).tagOf other = s.tagOf other := by
  unfold State.tagOf
  rw [State.beginRequest_mgmt, List.find?_append]
  cases hf : s.mgmt.requests.find? (·.station == other) with
  | some r => simp
  | none => simp [Ne.symm h]

/-- R182: a request that is taken, and whose work is done without a reply. -/
theorem State.waiting_of_taken {s u t : State} {sender tag : Nat} (ht : s.takes sender = true)
    (hr : t.mgmt.requests = (s.beginRequest sender tag).mgmt.requests)
    (hu : t = { u with mgmt := { u.mgmt with requests := t.mgmt.requests } }) : State.Waiting sender tag s u t := by
  have htag : ∀ n, t.tagOf n = (s.beginRequest sender tag).tagOf n := fun n => by
    unfold State.tagOf; rw [hr]
  exact ⟨(htag _).trans (State.tagOf_beginRequest ht),
    fun other ho => (htag _).trans (s.tagOf_beginRequest_other tag ho), hu⟩

/-- R184: the reply of a request that waited, given at its grant. -/
theorem State.Awaits.replyOf_complete {s u : State} {sender tag : Nat} (h : s.Awaits sender tag)
    (hr : u.mgmt.requests = s.mgmt.requests) (hl : u.line = s.line) (r : Result) (p : List Byte) :
    (u.complete sender r p).replyOf sender = some { tag := tag, result := r, payload := p } := by
  obtain ⟨htag, hslot⟩ := h
  refine (State.replyOf_complete u sender r p (tag := tag) ?_ ?_).1
  · unfold State.tagOf; rw [hr]; exact htag
  · unfold State.enrolled State.entryOf; rw [hl]; exact hslot

/-! ### SET_LEVEL (R73) -/

/-- R73: SET_LEVEL up to the arbiter. -/
theorem setLevel_taken (s : State) (sender tag circuit layer level fade : Nat) (h : s.takes sender = true) :
    ∃ t, exec (.setLevel sender tag circuit layer level fade) s = .next t ∧
      (∀ c l, circuitOf circuit = some c → layerOf layer = some l →
        State.Waiting sender tag s
          { s with
            claims :=
              { s.claims with
                order := s.claims.order ++
                  [.setLevel sender c l (min level 1000) (min fade 6000) (decide (1000 < level ∨ 6000 < fade))] } } t) ∧
      (circuitOf circuit = none ∨ layerOf layer = none → State.Answered sender tag .outOfRange [] s s t) := by
  refine ⟨_, congrArg Host.Outcome.next (State.takeRequest_of_taken h), fun c l hc hl => ?_, fun hbad => ?_⟩
  · have hwork : (s.beginRequest sender tag).reqSetLevel sender circuit layer level fade =
        (s.beginRequest sender tag).request
          (.setLevel sender c l (min level 1000) (min fade 6000) (decide (1000 < level ∨ 6000 < fade))) := by
      unfold State.reqSetLevel
      rw [hc, hl, Bool.decide_or]
    rw [hwork]
    exact State.waiting_of_taken h rfl rfl
  · have hwork : (s.beginRequest sender tag).reqSetLevel sender circuit layer level fade =
        (s.beginRequest sender tag).complete sender .outOfRange [] := by
      unfold State.reqSetLevel
      rcases hbad with hc | hl
      · rw [hc]
      · rw [hl]
        cases circuitOf circuit <;> rfl
    rw [hwork]
    exact State.refused tag _ h

/-- R73: a list holds a MANAGEMENT claim of a layer when it holds one of the layer and owner of the claim that SET_LEVEL places. -/
theorem any_management_iff {claims : List Claim} {l : Layer} (level fade : Nat) :
    (claims.any fun x => x.layer == l && x.owner == .management) = true ↔
      ∃ x ∈ claims, x.layer = (managementClaim l level fade).layer ∧ x.owner = (managementClaim l level fade).owner := by
  simp [managementClaim]

/-- R73: a granted SET_LEVEL in PERFORMANCE. -/
theorem State.grantSetLevel_performance {s : State} (sender : Nat) (c : Circuit) (l : Layer) (level fade : Nat) (adjusted : Bool)
    (h : s.cues.mode = .performance) :
    s.grantSetLevel sender c l level fade adjusted = s.closeSet.complete sender .notPermitted [] := by
  unfold State.grantSetLevel
  rw [h]

/-- R73: a granted SET_LEVEL in WORK. -/
theorem State.grantSetLevel_work {s : State} (sender : Nat) (c : Circuit) (l : Layer) (level fade : Nat) (adjusted : Bool)
    (h : s.cues.mode = .work) :
    s.grantSetLevel sender c l level fade adjusted =
      (s.placeOne c (managementClaim l level fade)).closeSet.complete sender
        (if (s.placementOn c (managementClaim l level fade)).refused then .noSpace else doneOr adjusted) [] := by
  unfold State.grantSetLevel
  rw [h]

/-- R73: SET_LEVEL_GRANT. -/
theorem setLevel_granted {s : State} {sender tag : Nat} {c : Circuit} {l : Layer} {level fade : Nat} {adjusted : Bool}
    {rest : List Request} (h : s.Grants (.setLevel sender c l level fade adjusted) rest) (ha : s.Awaits sender tag)
    (hlist : ListLaw (s.circ c).claims) :
    ∃ t, exec .setLevelGrant s = .next t ∧ t.claims.order = rest ∧
      (∀ k ≠ c, t.circ k = s.circ k ∧ t.eng k = s.eng k) ∧
      (s.cues.mode = .performance → t.circ c = s.circ c ∧ t.eng c = s.eng c ∧
        t.replyOf sender = some { tag := tag, result := .notPermitted, payload := [] }) ∧
      (s.cues.mode = .work →
        let own : Claim → Bool := fun x => x.layer == l && x.owner == .management
        ((s.circ c).claims.any own = true ∨ ((s.circ c).claims.length < 8 ∧ 1 ≤ s.claims.poolFree) →
          CircuitClosed s t c ((s.circ c).claims.filter (fun x => !own x) ++ [managementClaim l level fade]) (some fade) ∧
          t.mgmt.flags = s.mgmt.flags ∧
          t.replyOf sender =
            some { tag := tag, result := if adjusted then .adjusted else .done, payload := [] }) ∧
        ((s.circ c).claims.any own = false → (s.circ c).claims.length < 8 → s.claims.poolFree = 0 →
          t.circ c = s.circ c ∧ t.eng c = s.eng c ∧ t.mgmt.flags = s.mgmt.flags ||| 0x0400#16 ∧
          t.replyOf sender = some { tag := tag, result := .noSpace, payload := [] })) := by
  have hgrant : s.setLevelGrant = s.takeHead.grantSetLevel sender c l level fade adjusted := by
    unfold State.setLevelGrant
    rw [State.grantable_of_grants h]
  have hentry := h.1.2.2
  have unentered : ∀ k : Circuit, s.takeHead.closeSet.circ k = s.circ k ∧ s.takeHead.closeSet.eng k = s.eng k := fun k =>
    State.closeSet_unentered (s := s.takeHead) (hentry k)
  refine ⟨_, congrArg Host.Outcome.next hgrant, ?_⟩
  cases hmode : s.cues.mode with
  | performance =>
    rw [State.grantSetLevel_performance (s := s.takeHead) _ _ _ _ _ _ hmode]
    refine ⟨?_, fun k _ => by simpa using unentered k, fun _ => ⟨?_, ?_, ha.replyOf_complete (by rfl) (by rfl) _ _⟩, nofun⟩
    · rw [State.complete_claims, State.closeSet_order]
      exact State.takeHead_order h
    · rw [State.complete_circ]; exact (unentered c).1
    · rw [State.complete_eng]; exact (unentered c).2
  | work =>
    rw [State.grantSetLevel_work (s := s.takeHead) _ _ _ _ _ _ hmode]
    have work := SetWork.placeOne s.takeHead c (managementClaim l level fade)
    refine ⟨?_, fun k hk => ?_, nofun, fun _ => ⟨fun hroom => ?_, fun hown hroom hfree => ?_⟩⟩
    · rw [State.complete_claims, State.closeSet_order, work.order]
      exact State.takeHead_order h
    · have hother := s.takeHead.circ_placeOne_other (managementClaim l level fade) hk
      obtain ⟨hc, he⟩ := State.closeSet_unentered (hother ▸ hentry k)
      rw [State.complete_circ, State.complete_eng, hc, he, hother]
      unfold State.eng
      rw [work.engine]
      exact ⟨rfl, rfl⟩
    · obtain ⟨hcirc, hrefused, hmgmt⟩ := State.placeOne_taken (s := s.takeHead) (cl := managementClaim l level fade) hlist
        (hroom.imp_left (any_management_iff level fade).mp)
      have closed := CircuitClosed.of_entered (s := s) hcirc work.engine
      refine ⟨closed.congr (State.complete_claims _ _ _ _) (State.complete_engine _ _ _ _) (State.complete_cues _ _ _ _), ?_, ?_⟩
      · rw [State.complete_flags, State.closeSet_mgmt, hmgmt]; rfl
      · rw [hrefused]
        refine ha.replyOf_complete ?_ ?_ _ _
        · rw [State.closeSet_mgmt, hmgmt]; rfl
        · rw [State.closeSet_line, State.placeOne_eq]; rfl
    · have hno : ∀ x ∈ (s.circ c).claims,
          ¬(x.layer = (managementClaim l level fade).layer ∧ x.owner = (managementClaim l level fade).owner) := fun x hx hs =>
        Bool.eq_false_iff.mp hown ((any_management_iff level fade).mpr ⟨x, hx, hs⟩)
      obtain ⟨hp, hplaced⟩ := State.placeOne_without_record (s := s.takeHead) hno hroom hfree
      rw [hp, hplaced]
      refine ⟨?_, ?_, by rw [State.complete_flags]; rfl, ha.replyOf_complete (by rfl) (by rfl) _ _⟩
      · rw [State.complete_circ]; exact (unentered c).1
      · rw [State.complete_eng]; exact (unentered c).2

/-! ### RELEASE_LAYER (R74) -/

theorem circuitOf_val {n : Nat} {c : Circuit} (h : circuitOf n = some c) : n = c.val + 1 := by
  unfold circuitOf indexOf at h
  split at h
  · cases h
  · split at h
    · cases h
      simp only
      omega
    · cases h

/-- R74: RELEASE_LAYER up to the arbiter. -/
theorem releaseLayer_taken (s : State) (sender tag layer first last : Nat) (h : s.takes sender = true) :
    ∃ t, exec (.releaseLayer sender tag layer first last) s = .next t ∧
      (∀ l a b, layerOf layer = some l → circuitOf first = some a → circuitOf last = some b → a ≤ b →
        State.Waiting sender tag s
          { s with claims := { s.claims with order := s.claims.order ++ [.releaseLayer sender l a b] } } t) ∧
      (layerOf layer = none ∨ circuitOf first = none ∨ circuitOf last = none ∨ last < first →
        State.Answered sender tag .outOfRange [] s s t) := by
  refine ⟨_, congrArg Host.Outcome.next (State.takeRequest_of_taken h), fun l a b hl hfirst hlast hle => ?_, fun hbad => ?_⟩
  · have hwork : (s.beginRequest sender tag).reqReleaseLayer sender layer first last =
        (s.beginRequest sender tag).request (.releaseLayer sender l a b) := by
      unfold State.reqReleaseLayer
      rw [hl, hfirst, hlast]
      exact if_pos hle
    rw [hwork]
    exact State.waiting_of_taken h rfl rfl
  · have hwork : (s.beginRequest sender tag).reqReleaseLayer sender layer first last =
        (s.beginRequest sender tag).complete sender .outOfRange [] := by
      unfold State.reqReleaseLayer
      split
      · next l a b hl hfirst hlast =>
        have hlt : last < first := by simpa [hl, hfirst, hlast] using hbad
        have ha := circuitOf_val hfirst
        have hb := circuitOf_val hlast
        exact if_neg fun hle : a.val ≤ b.val => by omega
      · rfl
    rw [hwork]
    exact State.refused tag _ h

/-- R74: RELEASE_LAYER_GRANT. -/
theorem releaseLayer_granted {s : State} {sender tag : Nat} {l : Layer} {a b : Circuit} {rest : List Request}
    (h : s.Grants (.releaseLayer sender l a b) rest) (ha : s.Awaits sender tag) :
    ∃ t, exec .releaseLayerGrant s = .next t ∧ t.claims.order = rest ∧
      RemovedAndClosed s t (fun c cl => decide (a ≤ c ∧ c ≤ b) && cl.layer == l) ∧
      t.player = s.player ∧ t.cues = s.cues ∧ t.feedback = s.feedback ∧
      t.replyOf sender =
        some { tag := tag, result := .done,
               payload := be16 (s.removedCount fun c cl => decide (a ≤ c ∧ c ≤ b) && cl.layer == l) } := by
  have hgrant : s.releaseLayerGrant = s.takeHead.grantReleaseLayer sender l a b := by
    unfold State.releaseLayerGrant
    rw [State.grantable_of_grants h]
  have hrange : (fun c cl => decide (a ≤ c ∧ c ≤ b) && cl.layer == l) = inLayerRange l a b := by
    funext c cl
    unfold inLayerRange
    rw [Bool.decide_and]
  rw [hrange]
  refine ⟨_, congrArg Host.Outcome.next hgrant, ?_, ?_, ?_, ?_, ?_, ha.replyOf_complete (by rfl) (by rfl) _ _⟩
  · exact (congrArg ClaimBlock.order (State.complete_claims _ _ _ _)).trans
      ((State.closeSet_order _).trans (State.takeHead_order h))
  · exact (State.removeWhere_closed h (inLayerRange l a b)).congr (State.complete_claims _ _ _ _)
      (State.complete_engine _ _ _ _) (State.complete_cues _ _ _ _)
  · unfold State.grantReleaseLayer
    rw [State.complete_eq]; rfl
  · exact State.complete_cues _ _ _ _
  · exact State.complete_feedback _ _ _ _

/-- Settles O35: both requests wait once their references are good; their grants are one placement, and one removal. -/
theorem managementLevelsWaitAtTheArbiter : Obligations.ManagementLevelsWaitAtTheArbiter :=
  ⟨⟨setLevel_taken, fun _ _ _ _ _ _ _ _ _ h ha hlist => setLevel_granted h ha hlist⟩,
    releaseLayer_taken, fun _ _ _ _ _ _ _ h ha => releaseLayer_granted h ha⟩

end Sys2Proof.Machine
end

section
/-! PROOFS. A recall from its grant to its completion (O42). -/

namespace Sys2Proof.Machine

/-! ### The placement pass (R86, R87) -/

/-- R54, R55, R86: a recall's placement on a list with room, while the pool has a record. -/
theorem State.placeOne_scene {s : State} {c : Circuit} (level fade : Nat) (hlist : ListLaw (s.circ c).claims)
    (hfree : 0 < s.claims.poolFree) :
    s.placementOn c (sceneClaim level fade) ≠ .refusedPool ∧
      (s.placeOne c (sceneClaim level fade)).mgmt = s.mgmt ∧
      s.claims.poolFree ≤ (s.placeOne c (sceneClaim level fade)).claims.poolFree + 1 ∧
      ((s.circ c).claims.length < 8 →
        (s.placeOne c (sceneClaim level fade)).circ c =
          { s.circ c with
            claims := (s.circ c).claims.filter (fun x => !x.sameAs (sceneClaim level fade)) ++ [sceneClaim level fade]
            entry := some fade }) := by
  have hpool : s.placementOn c (sceneClaim level fade) ≠ .refusedPool := by
    unfold State.placementOn placementOf
    rw [if_pos hfree]
    repeat' split
    all_goals nofun
  obtain ⟨-, hleft, hmgmt⟩ := s.placeOne_outcome c (sceneClaim level fade) rfl
  refine ⟨hpool, by rw [hmgmt, if_neg hpool], ?_, fun hroom => ?_⟩
  · rw [hleft]
    split <;> omega
  · exact (State.placeOne_taken hlist (.inr ⟨hroom, hfree⟩)).1

/-- R86: the placement pass over entries of different circuits, with a pool record for each. -/
theorem State.placementPass_of_room (fade : Nat) (l : List SceneEntry) {s : State}
    (hdiff : l.Pairwise fun a b => a.circuit < b.circuit) (hfree : l.length ≤ s.claims.poolFree)
    (hlist : ∀ c : Circuit, ListLaw (s.circ c).claims) :
    (State.placementPass fade l s).1.refused = false ∧ (State.placementPass fade l s).2.mgmt = s.mgmt ∧
      (∀ c : Circuit, (∀ e ∈ l, e.circuit ≠ c) → (State.placementPass fade l s).2.circ c = s.circ c) ∧
      ∀ e ∈ l, (s.circ e.circuit).claims.length < 8 →
        ((State.placementPass fade l s).2.circ e.circuit).claims =
            (s.circ e.circuit).claims.filter (fun x => !x.sameAs (sceneClaim e.level fade)) ++ [sceneClaim e.level fade] ∧
          ((State.placementPass fade l s).2.circ e.circuit).entry = some fade := by
  induction l generalizing s with
  | nil => exact ⟨rfl, rfl, fun _ _ => rfl, fun e he => absurd he List.not_mem_nil⟩
  | cons e rest ih =>
    obtain ⟨hfirst, hrest⟩ := List.pairwise_cons.mp hdiff
    have hlen : rest.length + 1 ≤ s.claims.poolFree := hfree
    obtain ⟨hpool, hmgmt, hleft, hplaced⟩ := State.placeOne_scene (c := e.circuit) e.level fade (hlist _) (by omega)
    have hother : ∀ c, c ≠ e.circuit → (s.placeOne e.circuit (sceneClaim e.level fade)).circ c = s.circ c := fun c hc =>
      s.circ_placeOne_other _ hc
    have hlist' : ∀ c, ListLaw ((s.placeOne e.circuit (sceneClaim e.level fade)).circ c).claims := fun c => by
      by_cases hc : c = e.circuit
      · rw [hc, State.circ_placeOne_self]
        exact ((hlist e.circuit).placed s.claims.poolFree _).1
      · rw [hother c hc]; exact hlist c
    obtain ⟨hrefused, hflags, hkept, hdone⟩ := ih hrest (by omega) hlist'
    unfold State.placementPass
    rw [if_neg hpool]
    refine ⟨hrefused, hflags.trans hmgmt, fun c hc => ?_, fun x hx hroom => ?_⟩
    · rw [hkept c fun y hy => hc y (List.mem_cons_of_mem _ hy)]
      exact hother c (Ne.symm (hc e List.mem_cons_self))
    · rcases List.mem_cons.mp hx with rfl | hx
      · rw [hkept x.circuit fun y hy => (hfirst y hy).ne', hplaced hroom]
        exact ⟨rfl, rfl⟩
      · have hc : (s.placeOne e.circuit (sceneClaim e.level fade)).circ x.circuit = s.circ x.circuit :=
          hother _ (hfirst x hx).ne'
        have done := hdone x hx (by rw [hc]; exact hroom)
        rwa [hc] at done

/-! ### The two passes of a recall (R85, R86) -/

theorem SceneRecord.namesCircuit_iff (r : SceneRecord) (c : Circuit) :
    r.namesCircuit c = true ↔ ∃ e ∈ r.entries, e.circuit = c := by
  simp [SceneRecord.namesCircuit]

/-- R85: the removal pass leaves the lists of the circuits that the scene names. -/
theorem State.circ_removalPass_named (s : State) {r : SceneRecord} {e : SceneEntry} (he : e ∈ r.entries) :
    (s.removeWhere (outsideScene r)).circ e.circuit = s.circ e.circuit := by
  have hnone : (s.circ e.circuit).claims.filter (outsideScene r e.circuit) = [] := List.filter_eq_nil_iff.mpr fun cl _ => by
    simp [outsideScene, (r.namesCircuit_iff e.circuit).mpr ⟨e, he, rfl⟩]
  rw [State.circ_removeWhere, ClaimCircuit.without, hnone]; rfl

/-- R85: the removal pass takes every SCENE claim of a circuit that the scene does not name. -/
theorem State.claims_removalPass_unnamed (s : State) {r : SceneRecord} {c : Circuit} (hc : ∀ e ∈ r.entries, e.circuit ≠ c) :
    ((s.removeWhere (outsideScene r)).circ c).claims = (s.circ c).claims.filter fun cl => !(cl.layer == .scene) := by
  have hnot : r.namesCircuit c = false := Bool.eq_false_iff.mpr fun h =>
    let ⟨e, he, hec⟩ := (r.namesCircuit_iff c).mp h
    hc e he hec
  rw [State.circ_removeWhere, ClaimCircuit.claims_without]
  simp [outsideScene, hnot]

/-- R85, R86: the two passes of a recall, with a pool record for each entry. -/
theorem State.recallPasses_of_room {r : SceneRecord} {s : State} (hdiff : r.entries.Pairwise fun a b => a.circuit < b.circuit)
    (hfree : r.entries.length ≤ s.claims.poolFree) (hlist : ∀ c : Circuit, ListLaw (s.circ c).claims) :
    (s.recallPasses r).1.refused = false ∧ (s.recallPasses r).2.mgmt = s.mgmt ∧
      (∀ c : Circuit, (∀ e ∈ r.entries, e.circuit ≠ c) →
        ((s.recallPasses r).2.circ c).claims = (s.circ c).claims.filter fun cl => !(cl.layer == .scene)) ∧
      ∀ e ∈ r.entries, (s.circ e.circuit).claims.length < 8 →
        ((s.recallPasses r).2.circ e.circuit).claims =
            (s.circ e.circuit).claims.filter (fun x => !x.sameAs (sceneClaim e.level r.fade)) ++ [sceneClaim e.level r.fade] ∧
          ((s.recallPasses r).2.circ e.circuit).entry = some r.fade := by
  obtain ⟨hrefused, hmgmt, hkept, hplaced⟩ :=
    State.placementPass_of_room r.fade r.entries (s := s.removeWhere (outsideScene r)) hdiff
      (hfree.trans (Nat.le_add_right _ _)) fun c => by
        rw [State.circ_removeWhere, ClaimCircuit.claims_without]
        exact List.Pairwise.filter _ (hlist c)
  refine ⟨hrefused, hmgmt, fun c hc => ?_, fun e he hroom => ?_⟩
  · exact (congrArg ClaimCircuit.claims (hkept c hc)).trans (s.claims_removalPass_unnamed hc)
  · have hnamed := s.circ_removalPass_named he
    have placed := hplaced e he (by rw [hnamed]; exact hroom)
    rwa [hnamed] at placed

/-- R63: work on claims leaves the held values. -/
theorem Reworked.held {a b : ClaimCircuit} (h : Reworked a b) : b.target = a.target ∧ b.winner = a.winner := by
  rcases h with rfl | ⟨_, _, rfl⟩ <;> exact ⟨rfl, rfl⟩

/-- R84 to R86: the grant of a recall, with a pool record for each entry. -/
theorem recall_granted {s : State} {n : SceneNo} {asker : Option Asker} {rest : List Request}
    (h : s.Grants (.recall n asker) rest)
    (hdiff : s.player.scenes[n].entries.Pairwise fun a b => a.circuit < b.circuit)
    (hfree : s.player.scenes[n].entries.length ≤ s.claims.poolFree) (hlist : ∀ c : Circuit, ListLaw (s.circ c).claims) :
    ∃ t, exec .recallGrant s = .next t ∧ t.claims.order = rest ∧ t.engine = s.engine ∧ t.player = s.player ∧
      t.feedback = s.feedback ∧ t.mgmt = s.mgmt ∧
      t.claims.openSet = some (.recall { scene := n, content := s.player.scenes[n], asker := asker, refused := false }) ∧
      (∀ c : Circuit, (t.circ c).target = (s.circ c).target ∧ (t.circ c).winner = (s.circ c).winner) ∧
      (∀ c : Circuit, (∀ e ∈ s.player.scenes[n].entries, e.circuit ≠ c) →
        (t.circ c).claims = (s.circ c).claims.filter fun cl => !(cl.layer == .scene)) ∧
      ∀ e ∈ s.player.scenes[n].entries, (s.circ e.circuit).claims.length < 8 →
        (t.circ e.circuit).claims =
            (s.circ e.circuit).claims.filter (fun cl => !(cl.layer == .scene && cl.owner == .scenePlayer)) ++
              [sceneClaim e.level s.player.scenes[n].fade] ∧
          (t.circ e.circuit).entry = some s.player.scenes[n].fade := by
  have hgrant : s.recallGrant = s.takeHead.grantRecall n asker := by
    unfold State.recallGrant
    rw [State.grantable_of_grants h]
  obtain ⟨hrefused, hmgmt, hremoved, hplaced⟩ := State.recallPasses_of_room (s := s.takeHead) hdiff hfree hlist
  have work := SetWork.recallPasses s.player.scenes[n] s.takeHead
  obtain ⟨hsame, horder, -⟩ := s.takeHead.recallPasses_same s.player.scenes[n]
  have hplayer : (s.takeHead.recallPasses s.player.scenes[n]).2.player = s.player := by rw [hsame]; rfl
  have hfeedback : (s.takeHead.recallPasses s.player.scenes[n]).2.feedback = s.feedback := by rw [hsame]; rfl
  refine ⟨_, congrArg Host.Outcome.next hgrant, horder.trans (State.takeHead_order h), work.engine, hplayer, hfeedback, hmgmt, ?_,
    fun c => (work.circ c).held, hremoved, hplaced⟩
  exact congrArg
    (fun b => some (OpenWork.recall { scene := n, content := s.player.scenes[n], asker := asker, refused := b })) hrefused

/-! ### A recall without a record in the pool (R87) -/

/-- R58: a removal that finds no claim. -/
theorem State.removeWhere_none (s : State) {gone : Circuit → Claim → Bool}
    (h : ∀ c : Circuit, ∀ cl ∈ (s.circ c).claims, gone c cl = false) : s.removeWhere gone = s := by
  have hnone : ∀ c : Circuit, (s.circ c).claims.filter (gone c) = [] := fun c =>
    List.filter_eq_nil_iff.mpr fun cl hcl => by simp [h c cl hcl]
  have hcount : s.removedCount gone = 0 := by
    unfold State.removedCount
    simp [hnone]
  have hcircuits : mapTable (fun c t => t.without (gone c)) s.claims.circuits = s.claims.circuits :=
    mapTable_of_fixed fun c => by
      show (s.circ c).without (gone c) = s.circ c
      rw [ClaimCircuit.without, hnone]; rfl
  unfold State.removeWhere
  rw [hcount, hcircuits]; rfl

/-- R87: the grant of a recall while the pool is empty and no list holds a SCENE claim. -/
theorem recall_granted_refused {s : State} {n : SceneNo} {asker : Option Asker} {rest : List Request} {e : SceneEntry}
    {more : List SceneEntry} (h : s.Grants (.recall n asker) rest) (hentries : s.player.scenes[n].entries = e :: more)
    (hfree : s.claims.poolFree = 0) (hno : ∀ c : Circuit, ∀ cl ∈ (s.circ c).claims, cl.layer ≠ .scene)
    (hroom : (s.circ e.circuit).claims.length < 8) :
    ∃ t, exec .recallGrant s = .next t ∧ (∀ c : Circuit, t.circ c = s.circ c) ∧ t.claims.poolFree = 0 ∧
      t.mgmt = { s.mgmt with flags := s.mgmt.flags ||| 0x0400#16 } ∧ t.claims.order = rest ∧
      t.claims.openSet =
        some (.recall { scene := n, content := s.player.scenes[n], asker := asker, refused := true }) := by
  have hgrant : s.recallGrant = s.takeHead.grantRecall n asker := by
    unfold State.recallGrant
    rw [State.grantable_of_grants h]
  have hremoval : s.takeHead.removeWhere (outsideScene s.player.scenes[n]) = s.takeHead :=
    s.takeHead.removeWhere_none fun c cl hcl => by simp [outsideScene, hno c cl hcl]
  obtain ⟨hp, hplaced⟩ := State.placeOne_without_record (s := s.takeHead) (c := e.circuit)
    (cl := sceneClaim e.level s.player.scenes[n].fade) (fun x hx hs => hno _ x hx hs.1) hroom hfree
  have hpasses : ∃ touched, s.takeHead.recallPasses s.player.scenes[n] =
      ({ refused := true, touched := touched },
        { s.takeHead with mgmt := { s.mgmt with flags := s.mgmt.flags ||| 0x0400#16 } }) := by
    unfold State.recallPasses
    rw [hremoval, hentries]
    unfold State.placementPass
    rw [if_pos hp, hplaced]
    exact ⟨_, rfl⟩
  obtain ⟨touched, hpasses⟩ := hpasses
  have hstep : s.takeHead.grantRecall n asker =
      { s.takeHead with
        mgmt := { s.mgmt with flags := s.mgmt.flags ||| 0x0400#16 }
        claims :=
          { s.takeHead.claims with
            openSet :=
              some (.recall { scene := n, content := s.player.scenes[n], asker := asker, refused := true }) } } := by
    unfold State.grantRecall
    dsimp only
    rw [State.takeHead_player, hpasses]
    rfl
  exact ⟨_, congrArg Host.Outcome.next (hgrant.trans hstep), fun _ => rfl, hfree, rfl, State.takeHead_order h, rfl⟩

/-! ### The completion of a recall (R88) -/

theorem recall_completed {s : State} {w : RecallWork} (h : s.claims.openSet = some (.recall w)) :
    ∃ t, exec .recallCompletion s = .next t ∧ t.player = { s.player with active := some w.scene } ∧
      t.claims.openSet = none ∧ t.claims.order = s.claims.order ∧
      (∀ c : Circuit, CircuitClosed s t c (s.circ c).claims (s.circ c).entry) ∧
      (∀ a, w.asker = some a → s.hears a.station a.control = true →
        (w.refused = true → t.shotOf a.station a.control = some false) ∧
        (w.refused = false → a.feedback = .posted → t.shotOf a.station a.control = some true)) := by
  have hcompletion : s.recallCompletion = s.completeRecall w := by
    unfold State.recallCompletion
    rw [h]
  have closed : ∀ c : Circuit, CircuitClosed s (s.setActive (some w.scene)).closeSet c (s.circ c).claims (s.circ c).entry :=
    fun c => by
      cases he : (s.circ c).entry with
      | none => exact State.closeSet_unentered (s := s.setActive (some w.scene)) he
      | some fade =>
        refine CircuitClosed.of_entered (u := s.setActive (some w.scene)) ?_ rfl
        show s.circ c = _
        rw [← he]
  have hfeedback : s.completeRecall w =
      { (s.setActive (some w.scene)).closeSet with feedback := (s.completeRecall w).feedback } := by
    unfold State.completeRecall
    dsimp only
    split
    · exact State.settle_feedback_only _ _ _ _ _ _
    · rfl
  refine ⟨_, congrArg Host.Outcome.next hcompletion, ?_, ?_, ?_, fun c => (closed c).congr ?_ ?_ ?_, fun a ha hh => ?_⟩
  · rw [hfeedback]; rfl
  · rw [hfeedback]; rfl
  · rw [hfeedback]
    exact State.closeSet_order _
  · rw [hfeedback]
  · rw [hfeedback]
  · rw [hfeedback]
  · unfold State.completeRecall
    rw [ha]
    dsimp only
    unfold State.settle State.accept
    refine ⟨fun hr => ?_, fun hr hp => ?_⟩
    · rw [if_pos hr]
      exact State.shotOf_outcome_self (s := (s.setActive (some w.scene)).closeSet) false hh
    · rw [if_neg (by simp [hr]), hp]
      exact State.shotOf_outcome_self (s := (s.setActive (some w.scene)).closeSet) true hh

/-- Settles O42: the passes run in the grant, circuit by circuit; the completion closes the set that they left open. -/
theorem recallsRunInTheirSet : Obligations.RecallsRunInTheirSet :=
  ⟨⟨fun _ _ _ _ h hdiff hfree hlist => recall_granted h hdiff hfree hlist, fun _ _ h => recall_completed h⟩,
    fun _ _ _ _ _ _ h hentries hfree hno hroom => recall_granted_refused h hentries hfree hno hroom⟩

end Sys2Proof.Machine
end

section
/-! PROOFS. WRITE_CIRCUIT and the grant of its merge-rule request (O36). -/

namespace Sys2Proof.Machine

/-! ### Circuit entries (R126) -/

theorem curveOf_eq_none_iff (n : Nat) : curveOf n = none ↔ 2 < n := by
  unfold curveOf
  split <;> simp_all
  omega

theorem mergeRuleOf_eq_none_iff (n : Nat) : mergeRuleOf n = none ↔ 1 < n := by
  unfold mergeRuleOf
  split <;> simp_all
  omega

theorem yesNoOf_eq_none_iff (n : Nat) : yesNoOf n = none ↔ 1 < n := by
  unfold yesNoOf
  split <;> simp_all
  omega

theorem lossActionOf_eq_none_iff (n : Nat) : lossActionOf n = none ↔ 2 < n := by
  unfold lossActionOf
  split <;> simp_all
  omega

theorem masterGroupOf_eq_none_iff (n : Nat) : masterGroupOf n = none ↔ 3 < n ∧ n ≠ 255 := by
  unfold masterGroupOf indexOf
  split
  · simp_all
  · split <;> simp_all <;> omega

theorem curveOf_code {n : Nat} {x : Curve} (h : curveOf n = some x) : x.code = n := by
  unfold curveOf at h
  split at h <;> cases h <;> rfl

theorem mergeRuleOf_code {n : Nat} {x : MergeRule} (h : mergeRuleOf n = some x) : x.code = n := by
  unfold mergeRuleOf at h
  split at h <;> cases h <;> rfl

theorem yesNoOf_iff {n : Nat} {b : Bool} (h : yesNoOf n = some b) : b = true ↔ n = 1 := by
  unfold yesNoOf at h
  split at h <;> cases h <;> simp

theorem lossActionOf_code {n : Nat} {x : LossAction} (h : lossActionOf n = some x) : x.code = n := by
  unfold lossActionOf at h
  split at h <;> cases h <;> rfl

theorem masterGroupOf_code {n : Nat} {x : Option Master} (h : masterGroupOf n = some x) : masterGroupCode x = n := by
  unfold masterGroupOf indexOf at h
  split at h
  · next hn => cases h; exact hn.symm
  · split at h
    · cases h; rfl
    · cases h

/-- R126, case 3: a record is refused for a code that names no value. -/
theorem attrOf_eq_none_iff (f : CircuitFields) :
    attrOf f = none ↔
      2 < f.curve ∨ (3 < f.masterGroup ∧ f.masterGroup ≠ 255) ∨ 1 < f.mergeRule ∨ 1 < f.egress ∨ 2 < f.lossAction := by
  rw [← curveOf_eq_none_iff, ← masterGroupOf_eq_none_iff, ← mergeRuleOf_eq_none_iff, ← yesNoOf_eq_none_iff,
    ← lossActionOf_eq_none_iff]
  unfold attrOf
  split
  · next h1 h2 h3 h4 h5 => simp [h1, h2, h3, h4, h5]
  · next hbad =>
    refine iff_of_true rfl ?_
    by_contra hall
    simp only [not_or, ← ne_eq, Option.ne_none_iff_exists'] at hall
    obtain ⟨⟨a, ha⟩, ⟨b, hb⟩, ⟨c, hc⟩, ⟨d, hd⟩, ⟨e, he⟩⟩ := hall
    exact hbad a b c d e ha hb hc hd he

/-- R126, case 4: a stored record holds the codes as sent and the quantities in their ranges. -/
theorem attrOf_spec {f : CircuitFields} {a : Attr} (h : attrOf f = some a) :
    a.topSet = min f.topSet 1000 ∧ a.preheat = min (min f.preheat 200) (min f.topSet 1000) ∧
      a.switchPoint = max 1 (min 1000 f.switchPoint) ∧ a.egressLevel = min f.egressLevel 1000 ∧
      a.lossLevel = min f.lossLevel 1000 ∧ a.defaultFade = min f.defaultFade 6000 ∧ a.curve.code = f.curve ∧
      masterGroupCode a.masterGroup = f.masterGroup ∧ a.mergeRule.code = f.mergeRule ∧ (a.egress = true ↔ f.egress = 1) ∧
      a.lossAction.code = f.lossAction := by
  unfold attrOf at h
  split at h
  · next h1 h2 h3 h4 h5 =>
    cases h
    exact ⟨rfl, rfl, rfl, rfl, rfl, rfl, curveOf_code h1, masterGroupOf_code h2, mergeRuleOf_code h3, yesNoOf_iff h4,
      lossActionOf_code h5⟩
  · cases h

theorem clampCircuit_eq_iff (f : CircuitFields) :
    clampCircuit f = f ↔
      f.preheat ≤ 200 ∧ f.preheat ≤ f.topSet ∧ f.topSet ≤ 1000 ∧ 1 ≤ f.switchPoint ∧ f.switchPoint ≤ 1000 ∧
        f.defaultFade ≤ 6000 ∧ f.egressLevel ≤ 1000 ∧ f.lossLevel ≤ 1000 := by
  cases f
  simp only [clampCircuit, clamp, CircuitFields.mk.injEq, true_and]
  omega

/-! ### The taking of WRITE_CIRCUIT (R126, R127) -/

section Taken
variable {s : State} {sender circuit : Nat} {f : CircuitFields} {c : Circuit} (hc : circuitOf circuit = some c)
include hc

/-- R126, case 2. -/
theorem State.reqWriteCircuit_busy (h : s.store.state ≠ .idle ∨ s.recallInFlight = true) :
    s.reqWriteCircuit sender circuit f = s.complete sender .busy [] := by
  have hbusy : (s.storeBusy || s.recallInFlight) = true := by
    rw [Bool.or_eq_true]
    exact h.imp_left fun h => by simpa [State.storeBusy] using h
  unfold State.reqWriteCircuit
  rw [hc]
  exact if_pos hbusy

variable (hidle : s.store.state = .idle) (hrecall : s.recallInFlight = false)
include hidle hrecall

/-- R126, cases 3 and 4. -/
theorem State.reqWriteCircuit_free :
    s.reqWriteCircuit sender circuit f =
      match attrOf f with
      | none => s.complete sender .outOfRange []
      | some a => s.storeCircuit sender c a (clampCircuit f != f) := by
  have hfree : (s.storeBusy || s.recallInFlight) = false := by simp [State.storeBusy, hidle, hrecall]
  unfold State.reqWriteCircuit
  rw [hc]
  dsimp only
  rw [hfree]; rfl

end Taken

theorem State.rewriteEgress_released {s : State} (h : s.claims.egressAsserted = false) (c : Circuit) (old new : Attr) :
    s.rewriteEgress c old new = s := by
  unfold State.rewriteEgress
  rw [h]; rfl

theorem doneOr_clampCircuit (f : CircuitFields) :
    doneOr (clampCircuit f != f) = if clampCircuit f = f then .done else .adjusted := by
  unfold doneOr
  by_cases h : clampCircuit f = f <;> simp [h]

/-- R126, R127: WRITE_CIRCUIT: its refusals, and its record stored while the input is released. -/
theorem writeCircuit_taken (s : State) (sender tag circuit : Nat) (f : CircuitFields) (h : s.takes sender = true) :
    ∃ t, exec (.writeCircuit sender tag circuit f) s = .next t ∧
      (circuitOf circuit = none → State.Answered sender tag .outOfRange [] s s t) ∧
      (∀ c, circuitOf circuit = some c → s.store.state ≠ .idle ∨ s.recallInFlight = true →
        State.Answered sender tag .busy [] s s t) ∧
      (∀ c, circuitOf circuit = some c → s.store.state = .idle → s.recallInFlight = false → attrOf f = none →
        State.Answered sender tag .outOfRange [] s s t) ∧
      (∀ c a, circuitOf circuit = some c → s.store.state = .idle → s.recallInFlight = false → attrOf f = some a →
        s.claims.egressAsserted = false →
        (a.mergeRule = (s.eng c).attr.mergeRule →
          State.Answered sender tag (if clampCircuit f = f then .done else .adjusted) [] s (s.storeAttr c a) t) ∧
        (a.mergeRule ≠ (s.eng c).attr.mergeRule →
          State.Waiting sender tag s
            ((s.storeAttr c a).request (.mergeRule sender c (decide (clampCircuit f ≠ f)))) t)) := by
  refine ⟨_, congrArg Host.Outcome.next (State.takeRequest_of_taken h), fun hc => ?_, fun c hc hbusy => ?_,
    fun c hc hidle hrecall ha => ?_, fun c a hc hidle hrecall ha hreleased => ⟨fun hrule => ?_, fun hrule => ?_⟩⟩
  · have hwork : (s.beginRequest sender tag).reqWriteCircuit sender circuit f =
        (s.beginRequest sender tag).complete sender .outOfRange [] := by
      unfold State.reqWriteCircuit
      rw [hc]
    rw [hwork]
    exact State.refused tag _ h
  · rw [State.reqWriteCircuit_busy (s := s.beginRequest sender tag) hc hbusy]
    exact State.refused tag _ h
  · rw [State.reqWriteCircuit_free (s := s.beginRequest sender tag) hc hidle hrecall, ha]
    exact State.refused tag _ h
  · rw [State.reqWriteCircuit_free (s := s.beginRequest sender tag) hc hidle hrecall, ha]
    dsimp only
    unfold State.storeCircuit
    dsimp only
    rw [State.beginRequest_eng, if_pos hrule,
      State.rewriteEgress_released (s := (s.beginRequest sender tag).storeAttr c a) hreleased, doneOr_clampCircuit]
    exact State.answered_of_taken h rfl rfl rfl
  · have hbne : (clampCircuit f != f) = decide (clampCircuit f ≠ f) := by
      by_cases he : clampCircuit f = f <;> simp [he]
    rw [State.reqWriteCircuit_free (s := s.beginRequest sender tag) hc hidle hrecall, ha]
    dsimp only
    unfold State.storeCircuit
    dsimp only
    rw [State.beginRequest_eng, if_neg hrule, State.rewriteEgress_released
      (s := ((s.beginRequest sender tag).storeAttr c a).request (.mergeRule sender c (clampCircuit f != f))) hreleased, hbne]
    exact State.waiting_of_taken h rfl rfl

/-! ### The grant of a merge-rule request (R75) -/

theorem mergeRule_granted {s : State} {sender tag : Nat} {c : Circuit} {adjusted : Bool} {rest : List Request}
    (h : s.Grants (.mergeRule sender c adjusted) rest) (ha : s.Awaits sender tag) :
    ∃ t, exec .mergeRuleGrant s = .next t ∧ t.claims.order = rest ∧ t.claims.poolFree = s.claims.poolFree ∧
      CircuitClosed s t c (s.circ c).claims (some (s.eng c).attr.defaultFade) ∧
      (∀ k ≠ c, t.circ k = s.circ k ∧ t.eng k = s.eng k) ∧
      t.replyOf sender = some { tag := tag, result := if adjusted then .adjusted else .done, payload := [] } := by
  have hgrant : s.mergeRuleGrant = s.takeHead.grantMergeRule sender c adjusted := by
    unfold State.mergeRuleGrant
    rw [State.grantable_of_grants h]
  have hself : (s.takeHead.enter (· == c) (s.eng c).attr.defaultFade).circ c =
      { s.circ c with entry := some (s.eng c).attr.defaultFade } := by
    rw [State.circ_enter, if_pos (by simp)]; rfl
  have hother : ∀ k ≠ c, (s.takeHead.enter (· == c) (s.eng c).attr.defaultFade).circ k = s.circ k := fun k hk => by
    rw [State.circ_enter, if_neg (by simpa using hk)]; rfl
  refine ⟨_, congrArg Host.Outcome.next hgrant, ?_, ?_, ?_, fun k hk => ?_, ha.replyOf_complete (by rfl) (by rfl) _ _⟩
  · exact (congrArg ClaimBlock.order (State.complete_claims _ _ _ _)).trans
      ((State.closeSet_order _).trans (State.takeHead_order h))
  · exact (congrArg ClaimBlock.poolFree (State.complete_claims _ _ _ _)).trans (State.closeSet_poolFree _)
  · exact (CircuitClosed.of_entered (s := s) (claims := (s.circ c).claims) hself rfl).congr (State.complete_claims _ _ _ _)
      (State.complete_engine _ _ _ _) (State.complete_cues _ _ _ _)
  · have hentry := h.1.2.2 k
    rw [← hother k hk] at hentry
    obtain ⟨hcirc, heng⟩ := State.closeSet_unentered hentry
    exact ⟨(State.complete_circ _ _ _ _ _).trans (hcirc.trans (hother k hk)), (State.complete_eng _ _ _ _ _).trans heng⟩

/-! ### WRITE_CIRCUIT while the input is asserted (R127) -/

/-- R127: the rewrite of the EGRESS slot, circuit by circuit. -/
theorem State.rewriteEgress_asserted {s : State} (h : s.claims.egressAsserted = true) (c : Circuit) (old new : Attr) :
    ((s.rewriteEgress c old new).eng c).attr = (s.eng c).attr ∧
      ((s.rewriteEgress c old new).circ c).egress =
        (if new.egress then some new.egressLevel else if old.egress then none else (s.circ c).egress) ∧
      ((s.rewriteEgress c old new).circ c).loss = (s.circ c).loss ∧
      ((s.rewriteEgress c old new).circ c).claims = (s.circ c).claims ∧
      ∀ k ≠ c, (s.rewriteEgress c old new).circ k = s.circ k ∧ (s.rewriteEgress c old new).eng k = s.eng k := by
  have written : ∀ (content : Option Nat) (fade : Nat),
      ((s.safetyWrite .egress (onlyCircuit c content) fade).circ c).egress = content ∧
        ((s.safetyWrite .egress (onlyCircuit c content) fade).circ c).loss = (s.circ c).loss ∧
        ((s.safetyWrite .egress (onlyCircuit c content) fade).circ c).claims = (s.circ c).claims ∧
        ∀ k ≠ c, (s.safetyWrite .egress (onlyCircuit c content) fade).circ k = s.circ k ∧
          (s.safetyWrite .egress (onlyCircuit c content) fade).eng k = s.eng k := fun content fade => by
    obtain ⟨hegress, hloss⟩ := s.safetyWrite_egress (onlyCircuit c content) fade c
    refine ⟨by rw [hegress]; simp [onlyCircuit], hloss, s.safetyWrite_claims _ _ _ c, fun k hk => ?_⟩
    exact s.safetyWrite_unnamed .egress fade (by simp [onlyCircuit, hk])
  unfold State.rewriteEgress
  rw [if_pos h]
  split
  · exact ⟨s.safetyWrite_attr _ _ _ c, written _ _⟩
  · split
    · exact ⟨s.safetyWrite_attr _ _ _ c, written _ _⟩
    · exact ⟨rfl, rfl, rfl, rfl, fun _ _ => ⟨rfl, rfl⟩⟩

theorem State.storeAttr_other (s : State) (c : Circuit) (a : Attr) {k : Circuit} (hk : k ≠ c) :
    (s.storeAttr c a).eng k = s.eng k := set_other _ _ hk

theorem writeCircuit_asserted {s : State} {sender tag circuit : Nat} {f : CircuitFields} {c : Circuit} {a : Attr}
    (h : s.takes sender = true) (hc : circuitOf circuit = some c) (hidle : s.store.state = .idle)
    (hrecall : s.recallInFlight = false) (ha : attrOf f = some a) (hasserted : s.claims.egressAsserted = true) :
    ∃ t, exec (.writeCircuit sender tag circuit f) s = .next t ∧ (t.eng c).attr = a ∧
      (t.circ c).egress =
        (if a.egress then some a.egressLevel else if (s.eng c).attr.egress then none else (s.circ c).egress) ∧
      (t.circ c).loss = (s.circ c).loss ∧ (t.circ c).claims = (s.circ c).claims ∧
      ∀ k ≠ c, t.circ k = s.circ k ∧ t.eng k = s.eng k := by
  have hattr : (((s.beginRequest sender tag).storeAttr c a).eng c).attr = a := by
    rw [State.storeAttr_attr, if_pos rfl]
  have hother : ∀ k ≠ c, ((s.beginRequest sender tag).storeAttr c a).eng k = s.eng k := fun k hk =>
    (s.beginRequest sender tag).storeAttr_other c a hk
  refine ⟨_, congrArg Host.Outcome.next (State.takeRequest_of_taken h), ?_⟩
  rw [State.reqWriteCircuit_free (s := s.beginRequest sender tag) hc hidle hrecall, ha]
  dsimp only
  unfold State.storeCircuit
  dsimp only
  split
  · obtain ⟨hnew, hegress, hloss, hclaims, hframe⟩ :=
      State.rewriteEgress_asserted (s := (s.beginRequest sender tag).storeAttr c a) hasserted c (s.eng c).attr a
    simp only [State.complete_circ, State.complete_eng, State.beginRequest_eng]
    exact ⟨hnew.trans hattr, hegress, hloss, hclaims, fun k hk => ⟨(hframe k hk).1, (hframe k hk).2.trans (hother k hk)⟩⟩
  · obtain ⟨hnew, hegress, hloss, hclaims, hframe⟩ :=
      State.rewriteEgress_asserted
        (s := ((s.beginRequest sender tag).storeAttr c a).request (.mergeRule sender c (clampCircuit f != f))) hasserted c
        (s.eng c).attr a
    exact ⟨hnew.trans hattr, hegress, hloss, hclaims, fun k hk => ⟨(hframe k hk).1, (hframe k hk).2.trans (hother k hk)⟩⟩

/-- Settles O36: the record that a WRITE_CIRCUIT stores, its refusals and replies, its merge-rule request, and the EGRESS slot. -/
theorem circuitWritesActAtOnce : Obligations.CircuitWritesActAtOnce :=
  ⟨fun f => ⟨attrOf_eq_none_iff f, clampCircuit_eq_iff f, fun _ h => attrOf_spec h⟩,
    ⟨writeCircuit_taken, fun _ _ _ _ _ _ h ha => mergeRule_granted h ha⟩,
    fun _ _ _ _ _ _ _ h hc hidle hrecall ha hasserted => writeCircuit_asserted h hc hidle hrecall ha hasserted⟩

end Sys2Proof.Machine
end

section
/-! PROOFS. The scene edits (O45). -/

namespace Sys2Proof.Machine

/-! ### Refusals of a scene edit (R79) -/

theorem State.storeOrRecall_iff (s : State) :
    (s.storeBusy || s.recallInFlight) = true ↔ s.store.state ≠ .idle ∨ s.recallInFlight = true := by
  simp [State.storeBusy]

theorem State.storeOrRecall_free {s : State} (hidle : s.store.state = .idle) (hrecall : s.recallInFlight = false) :
    (s.storeBusy || s.recallInFlight) = false := by
  simp [State.storeBusy, hidle, hrecall]

/-- R78: the deferred actions that name a scene. -/
theorem State.sceneGuarded_iff (s : State) (n : SceneNo) :
    s.sceneGuarded n = true ↔ ∃ p ∈ s.cues.pendings ++ s.takenRecords, p.work = .scene n := by
  unfold State.sceneGuarded
  rw [← List.any_append, List.any_eq_true]
  simp [Pending.names]

theorem State.sceneEditRefusal_of_refused {s : State} {n : SceneNo} {refusal : Result}
    (h : (s.store.state ≠ .idle ∨ s.recallInFlight = true) ∧ refusal = .busy ∨
      (s.store.state = .idle ∧ s.recallInFlight = false ∧
        (∃ p ∈ s.cues.pendings ++ s.takenRecords, p.work = .scene n) ∧ refusal = .refusedPending)) :
    s.sceneEditRefusal n = some refusal := by
  unfold State.sceneEditRefusal
  rcases h with ⟨hbusy, rfl⟩ | ⟨hidle, hrecall, hnamed, rfl⟩
  · rw [if_pos (s.storeOrRecall_iff.mpr hbusy)]
  · rw [State.storeOrRecall_free hidle hrecall, if_pos ((s.sceneGuarded_iff n).mpr hnamed)]; rfl

theorem State.sceneEditRefusal_none {s : State} {n : SceneNo} (hidle : s.store.state = .idle) (hrecall : s.recallInFlight = false)
    (hfree : ∀ p ∈ s.cues.pendings ++ s.takenRecords, p.work ≠ .scene n) : s.sceneEditRefusal n = none := by
  have hguard : ¬s.sceneGuarded n = true := fun h => by
    obtain ⟨p, hp, hw⟩ := (s.sceneGuarded_iff n).mp h
    exact hfree p hp hw
  unfold State.sceneEditRefusal
  rw [State.storeOrRecall_free hidle hrecall, if_neg hguard]; rfl

/-! ### Bad arguments, and refusals of good ones (R79) -/

section Edits
variable (s : State) (sender : Nat) {scene circuit : Nat}

theorem State.reqSetSceneEntry_bad (level : Nat) (h : sceneOf scene = none ∨ circuitOf circuit = none) :
    s.reqSetSceneEntry sender scene circuit level = s.complete sender .outOfRange [] := by
  unfold State.reqSetSceneEntry
  rcases h with h | h
  · rw [h]
  · rw [h]; cases sceneOf scene <;> rfl

theorem State.reqClearSceneEntry_bad (h : sceneOf scene = none ∨ circuitOf circuit = none) :
    s.reqClearSceneEntry sender scene circuit = s.complete sender .outOfRange [] := by
  unfold State.reqClearSceneEntry
  rcases h with h | h
  · rw [h]
  · rw [h]; cases sceneOf scene <;> rfl

theorem State.reqSetSceneFade_bad (fade : Nat) (h : sceneOf scene = none) :
    s.reqSetSceneFade sender scene fade = s.complete sender .outOfRange [] := by
  unfold State.reqSetSceneFade
  rw [h]

variable {s} {n : SceneNo} {c : Circuit} {refusal : Result} (hs : sceneOf scene = some n)
include hs

theorem State.reqSetSceneEntry_refused (level : Nat) (hc : circuitOf circuit = some c) (h : s.sceneEditRefusal n = some refusal) :
    s.reqSetSceneEntry sender scene circuit level = s.complete sender refusal [] := by
  unfold State.reqSetSceneEntry
  rw [hs, hc]; dsimp only; rw [h]

theorem State.reqClearSceneEntry_refused (hc : circuitOf circuit = some c) (h : s.sceneEditRefusal n = some refusal) :
    s.reqClearSceneEntry sender scene circuit = s.complete sender refusal [] := by
  unfold State.reqClearSceneEntry
  rw [hs, hc]; dsimp only; rw [h]

theorem State.reqSetSceneFade_refused (fade : Nat) (h : s.sceneEditRefusal n = some refusal) :
    s.reqSetSceneFade sender scene fade = s.complete sender refusal [] := by
  unfold State.reqSetSceneFade
  rw [hs]; dsimp only; rw [h]

/-! ### Edits that are not refused (R80, R81) -/

theorem State.reqSetSceneEntry_free (level : Nat) (hc : circuitOf circuit = some c) (h : s.sceneEditRefusal n = none) :
    s.reqSetSceneEntry sender scene circuit level = s.storeSceneEntry sender n c level := by
  unfold State.reqSetSceneEntry
  rw [hs, hc]; dsimp only; rw [h]

theorem State.reqClearSceneEntry_free (hc : circuitOf circuit = some c) (h : s.sceneEditRefusal n = none) :
    s.reqClearSceneEntry sender scene circuit =
      (s.setScene n { s.player.scenes[n] with
        entries := s.player.scenes[n].entries.filter fun e => e.circuit ≠ c }).complete sender .done [] := by
  have htest : (fun e : SceneEntry => e.circuit != c) = fun e => decide (e.circuit ≠ c) := by
    funext e
    rw [bne, Bool.beq_eq_decide_eq, decide_not]
  unfold State.reqClearSceneEntry
  rw [hs, hc]; dsimp only; rw [h, htest]

theorem State.reqSetSceneFade_free (fade : Nat) (h : s.sceneEditRefusal n = none) :
    s.reqSetSceneFade sender scene fade =
      (s.setScene n { s.player.scenes[n] with fade := min fade 6000 }).complete sender (doneOr (6000 < fade)) [] := by
  unfold State.reqSetSceneFade
  rw [hs]; dsimp only; rw [h]

end Edits

theorem doneOr_above (limit n : Nat) : doneOr (decide (limit < n)) = if n ≤ limit then .done else .adjusted := by
  unfold doneOr
  by_cases h : n ≤ limit
  · rw [if_pos h, if_neg (by simpa using h)]
  · rw [if_neg h, if_pos (by simpa using h)]

/-- R182: an edit that is stored changes one scene, and gives the sender its reply. -/
theorem State.sceneStored {s : State} {sender : Nat} (tag : Nat) (n : SceneNo) (x : SceneRecord) (result : Result)
    (h : s.takes sender = true) :
    State.Answered sender tag result [] s (s.setScene n x)
      (((s.beginRequest sender tag).setScene n x).complete sender result []) :=
  State.answered_of_taken h rfl rfl rfl

/-! ### The entries after SET_SCENE_ENTRY (R80) -/

theorem mem_insertEntry {e x : SceneEntry} {l : List SceneEntry} : x ∈ insertEntry e l ↔ x = e ∨ x ∈ l := by
  induction l with
  | nil => simp [insertEntry]
  | cons y rest ih =>
    unfold insertEntry
    split
    · exact List.mem_cons
    · rw [List.mem_cons, ih, List.mem_cons]; exact or_left_comm

theorem insertEntry_ascending {e : SceneEntry} {l : List SceneEntry} (hl : l.Pairwise fun a b => a.circuit < b.circuit)
    (hno : ∀ x ∈ l, x.circuit ≠ e.circuit) : (insertEntry e l).Pairwise fun a b => a.circuit < b.circuit := by
  induction l with
  | nil => exact List.pairwise_singleton _ _
  | cons y rest ih =>
    obtain ⟨hy, hrest⟩ := List.pairwise_cons.mp hl
    obtain ⟨hne, hno⟩ := List.forall_mem_cons.mp hno
    unfold insertEntry
    split
    · next hlt => exact .cons (List.forall_mem_cons.mpr ⟨hlt, fun x hx => hlt.trans (hy x hx)⟩) hl
    · next hge =>
      refine .cons (fun x hx => ?_) (ih hrest hno)
      rcases mem_insertEntry.mp hx with rfl | hx
      · exact lt_of_le_of_ne (not_lt.mp hge) hne
      · exact hy x hx

theorem SceneEntry.eq_mk_iff {x : SceneEntry} {c : Circuit} {level : Nat} :
    x = { circuit := c, level := level } ↔ x.circuit = c ∧ x.level = level := by
  cases x
  rw [SceneEntry.mk.injEq]

theorem replaceEntry_ascending {c : Circuit} {level : Nat} {l : List SceneEntry}
    (hl : l.Pairwise fun a b => a.circuit < b.circuit) :
    (l.map fun x => if x.circuit = c then { circuit := c, level := level } else x).Pairwise fun a b => a.circuit < b.circuit := by
  have hcircuit : ∀ x : SceneEntry,
      (if x.circuit = c then ({ circuit := c, level := level } : SceneEntry) else x).circuit = x.circuit := fun x => by
    split
    · next h => exact h.symm
    · rfl
  exact List.pairwise_map.mpr (hl.imp fun {a b} h => by rwa [hcircuit a, hcircuit b])

/-- R80: an entry replaced in a list that holds one for its circuit. -/
theorem mem_replaceEntry {c : Circuit} {level : Nat} {e : SceneEntry} {l : List SceneEntry} (h : ∃ x ∈ l, x.circuit = c) :
    (e ∈ l.map fun x => if x.circuit = c then { circuit := c, level := level } else x) ↔
      (e.circuit ≠ c ∧ e ∈ l) ∨ (e.circuit = c ∧ e.level = level) := by
  rw [← SceneEntry.eq_mk_iff, List.mem_map]
  constructor
  · rintro ⟨x, hx, rfl⟩
    split
    · exact .inr rfl
    · next hne => exact .inl ⟨hne, hx⟩
  · rintro (⟨hne, he⟩ | rfl)
    · exact ⟨e, he, if_neg hne⟩
    · obtain ⟨x, hx, hc⟩ := h
      exact ⟨x, hx, if_pos hc⟩

/-- R80: SET_SCENE_ENTRY without a place for its entry. -/
theorem State.storeSceneEntry_full {s : State} {n : SceneNo} {c : Circuit} (sender level : Nat)
    (hno : ∀ e ∈ s.player.scenes[n].entries, e.circuit ≠ c) (hfull : 8192 ≤ s.scenePlacesUsed) :
    s.storeSceneEntry sender n c level = s.complete sender .noSpace [] := by
  have hnames : ¬s.player.scenes[n].namesCircuit c = true := fun h => by
    obtain ⟨e, he, hc⟩ := (SceneRecord.namesCircuit_iff _ c).mp h
    exact hno e he hc
  unfold State.storeSceneEntry
  dsimp only
  rw [if_neg hnames]
  exact if_neg (not_lt_of_ge hfull)

/-- R80: SET_SCENE_ENTRY with a place for its entry: the entry of its circuit is replaced, or a new one inserted. -/
theorem State.storeSceneEntry_room {s : State} {n : SceneNo} {c : Circuit} (sender level : Nat)
    (hsorted : s.player.scenes[n].entries.Pairwise fun a b => a.circuit < b.circuit)
    (hroom : (∃ e ∈ s.player.scenes[n].entries, e.circuit = c) ∨ s.scenePlacesUsed < 8192) :
    ∃ x : SceneRecord, s.storeSceneEntry sender n c level = (s.setScene n x).complete sender (doneOr (1000 < level)) [] ∧
      x.fade = s.player.scenes[n].fade ∧ (x.entries.Pairwise fun a b => a.circuit < b.circuit) ∧
      ∀ e : SceneEntry, e ∈ x.entries ↔
        (e.circuit ≠ c ∧ e ∈ s.player.scenes[n].entries) ∨ (e.circuit = c ∧ e.level = min level 1000) := by
  unfold State.storeSceneEntry
  dsimp only
  split
  · next hnames =>
    refine ⟨_, rfl, rfl, replaceEntry_ascending hsorted, fun _ => ?_⟩
    exact mem_replaceEntry ((SceneRecord.namesCircuit_iff _ c).mp hnames)
  · next hnames =>
    have hno : ∀ e ∈ s.player.scenes[n].entries, e.circuit ≠ c := fun e he hc =>
      hnames ((SceneRecord.namesCircuit_iff _ c).mpr ⟨e, he, hc⟩)
    have hplace : s.scenePlacesUsed < Config.scenePlaces :=
      hroom.resolve_left fun h => hnames ((SceneRecord.namesCircuit_iff _ c).mpr h)
    rw [if_pos hplace]
    refine ⟨_, rfl, rfl, insertEntry_ascending hsorted hno, fun e => ?_⟩
    rw [← SceneEntry.eq_mk_iff, mem_insertEntry, or_comm]
    exact or_congr_left ⟨fun he => ⟨hno e he, he⟩, And.right⟩

/-! ### The edits (R79 to R81) -/

/-- Settles O45: the arguments, the store and the deferred actions decide the refusals; any other edit replaces its scene. -/
theorem sceneEditsAreStored : Obligations.SceneEditsAreStored := fun s sender tag scene h => by
  have taken : ∀ {work : State → State}, (Host.Outcome.next (s.takeRequest sender tag work) : Host.Outcome State Fault Refusal) =
      .next (work (s.beginRequest sender tag)) := congrArg Host.Outcome.next (State.takeRequest_of_taken h)
  have answers : ∀ {work : State → State} {result : Result},
      work (s.beginRequest sender tag) = (s.beginRequest sender tag).complete sender result [] →
      ∃ t, (Host.Outcome.next (s.takeRequest sender tag work) : Host.Outcome State Fault Refusal) = .next t ∧
        State.Answered sender tag result [] s s t := fun hwork => ⟨_, taken, hwork ▸ State.refused tag _ h⟩
  refine ⟨fun hs => ⟨fun _ level => answers (State.reqSetSceneEntry_bad _ _ level (.inl hs)),
      fun _ => answers (State.reqClearSceneEntry_bad _ _ (.inl hs)), fun fade => answers (State.reqSetSceneFade_bad _ _ fade hs)⟩,
    fun _ hc => ⟨fun level => answers (State.reqSetSceneEntry_bad _ _ level (.inr hc)),
      answers (State.reqClearSceneEntry_bad _ _ (.inr hc))⟩,
    fun n hs => ⟨fun refusal hrefused => ?_, fun hidle hrecall hfree => ?_⟩⟩
  · have hedit : (s.beginRequest sender tag).sceneEditRefusal n = some refusal := State.sceneEditRefusal_of_refused hrefused
    exact ⟨fun _ _ level hc => answers (State.reqSetSceneEntry_refused _ hs level hc hedit),
      fun _ _ hc => answers (State.reqClearSceneEntry_refused _ hs hc hedit),
      fun fade => answers (State.reqSetSceneFade_refused _ hs fade hedit)⟩
  · have hedit : (s.beginRequest sender tag).sceneEditRefusal n = none := State.sceneEditRefusal_none hidle hrecall hfree
    refine ⟨fun fade => ⟨_, taken, ?_⟩, fun _ c hc => ⟨_, taken, ?_⟩, fun _ level c hc hno hfull => answers ?_,
      fun _ level c hc hsorted hroom => ?_⟩
    · rw [State.reqSetSceneFade_free _ hs fade hedit, doneOr_above]
      exact State.sceneStored tag n _ _ h
    · rw [State.reqClearSceneEntry_free _ hs hc hedit]
      exact State.sceneStored tag n _ _ h
    · exact (State.reqSetSceneEntry_free _ hs level hc hedit).trans
        (State.storeSceneEntry_full (s := s.beginRequest sender tag) sender level hno hfull)
    · obtain ⟨x, hstored, hx⟩ := State.storeSceneEntry_room (s := s.beginRequest sender tag) sender level hsorted hroom
      refine ⟨_, x, taken, ?_, hx⟩
      rw [State.reqSetSceneEntry_free _ hs level hc hedit, hstored, doneOr_above]
      exact State.sceneStored tag n _ _ h

end Sys2Proof.Machine
end

section
/-! PROOFS. CAPTURE_SCENE and its grant (O44). -/

namespace Sys2Proof.Machine

/-! ### What a capture reads (R93) -/

theorem State.captured_ascending (s : State) : s.captured.Pairwise fun a b => a.circuit < b.circuit := by
  unfold State.captured
  exact List.pairwise_map.mpr (allCircuits_sorted.filter _)

theorem State.mem_captured (s : State) (c : Circuit) (level : Nat) :
    ({ circuit := c, level := level } : SceneEntry) ∈ s.captured ↔ 0 < s.claimTarget c ∧ level = s.claimTarget c := by
  unfold State.captured
  rw [List.mem_map]
  constructor
  · rintro ⟨k, hk, heq⟩
    obtain ⟨rfl, rfl⟩ := SceneEntry.mk.inj heq
    exact ⟨of_decide_eq_true (List.mem_filter.mp hk).2, rfl⟩
  · rintro ⟨hpos, rfl⟩
    exact ⟨c, List.mem_filter.mpr ⟨mem_allCircuits c, decide_eq_true hpos⟩, rfl⟩

theorem State.captured_length (s : State) :
    s.captured.length = (allCircuits.filter fun c => decide (0 < s.claimTarget c)).length := List.length_map _

/-- R59: the target that the claims ask for is the merge with both slots empty. -/
theorem State.claimTarget_eq_merge (s : State) (c : Circuit) :
    s.claimTarget c =
      (mergeCircuit s.cues.mode (s.eng c).attr.mergeRule { s.circ c with egress := none, loss := none }).1 := rfl

/-! ### Scenes that deferred actions name (R78) -/

/-- R78: outside an open cue, the taken records are those of the waiting cues. -/
theorem State.mem_takenRecords {s : State} (h : s.claims.openSet = none) (p : Pending) :
    p ∈ s.takenRecords ↔ ∃ x records fires, Request.cue x records fires ∈ s.claims.order ∧ p ∈ records := by
  unfold State.takenRecords
  rw [h, List.append_nil, List.mem_flatMap]
  constructor
  · rintro ⟨r, hr, hp⟩
    cases r with
    | cue x records fires => exact ⟨x, records, fires, hr, hp⟩
    | _ => cases hp
  · rintro ⟨x, records, fires, hr, hp⟩
    exact ⟨_, hr, hp⟩

/-- R78: at the grant of a capture, the scene is guarded by the records that were pending or taken before it. -/
theorem State.sceneGuarded_at_capture {s : State} {sender : Nat} {n : SceneNo} {rest : List Request}
    (h : s.Grants (.capture sender n) rest) :
    s.takeHead.sceneGuarded n = true ↔
      ∃ p : Pending, p.work = .scene n ∧
        (p ∈ s.cues.pendings ∨ ∃ x records fires, Request.cue x records fires ∈ s.claims.order ∧ p ∈ records) := by
  have hopen : s.takeHead.claims.openSet = none := h.1.2.1
  have hcue : ∀ x records fires, Request.cue x records fires ∈ s.takeHead.claims.order ↔
      Request.cue x records fires ∈ s.claims.order := fun x records fires => by
    rw [State.takeHead_order h, h.2, List.mem_cons]
    exact (or_iff_right nofun).symm
  rw [State.sceneGuarded_iff]
  refine exists_congr fun p => ?_
  rw [List.mem_append, State.mem_takenRecords hopen, and_comm]
  simp only [hcue, State.takeHead_cues]

/-! ### The grant (R93) -/

@[simp] theorem State.complete_player (s : State) (n : Nat) (r : Result) (p : List Byte) :
    (s.complete n r p).player = s.player := by rw [State.complete_eq]

section Grant
variable {s : State} (hset : s.claims.openSet = none) (hentry : ∀ c : Circuit, (s.circ c).entry = none) (sender : Nat) (n : SceneNo)
include hset hentry

theorem State.grantCapture_busy (h : s.store.state ≠ .idle) : s.grantCapture sender n = s.complete sender .busy [] := by
  unfold State.grantCapture
  rw [if_pos (by simpa [State.storeBusy] using h), State.closeSet_of_empty hset hentry]

variable (hidle : s.store.state = .idle)
include hidle

theorem State.grantCapture_named (h : s.sceneGuarded n = true) :
    s.grantCapture sender n = s.complete sender .refusedPending [] := by
  unfold State.grantCapture
  rw [if_neg (by simp [State.storeBusy, hidle]), if_pos h, State.closeSet_of_empty hset hentry]

variable (hfree : ¬s.sceneGuarded n = true)
include hfree

theorem State.grantCapture_full (h : Config.scenePlaces - s.scenePlacesUsed + s.player.scenes[n].entries.length < s.captured.length) :
    s.grantCapture sender n = s.complete sender .noSpace [] := by
  unfold State.grantCapture
  rw [if_neg (by simp [State.storeBusy, hidle]), if_neg hfree, if_pos h, State.closeSet_of_empty hset hentry]

theorem State.grantCapture_stored
    (h : ¬Config.scenePlaces - s.scenePlacesUsed + s.player.scenes[n].entries.length < s.captured.length) :
    s.grantCapture sender n =
      (s.setScene n { s.player.scenes[n] with entries := s.captured }).complete sender .done (be16 s.captured.length) := by
  unfold State.grantCapture
  rw [if_neg (by simp [State.storeBusy, hidle]), if_neg hfree, if_neg h]
  rw [State.closeSet_of_empty (s := s.setScene n _) hset hentry]

end Grant

/-- R93: a granted capture changes the entries of its scene at most. -/
theorem State.grantCapture_frame {s : State} (hset : s.claims.openSet = none) (hentry : ∀ c : Circuit, (s.circ c).entry = none)
    (sender : Nat) (n : SceneNo) :
    (s.grantCapture sender n).claims = s.claims ∧ (s.grantCapture sender n).engine = s.engine ∧
      (s.grantCapture sender n).player.active = s.player.active ∧
      (s.grantCapture sender n).player.scenes[n].fade = s.player.scenes[n].fade ∧
      ∀ k : SceneNo, k ≠ n → (s.grantCapture sender n).player.scenes[k] = s.player.scenes[k] := by
  have refused : ∀ result, let t := s.complete sender result []
      t.claims = s.claims ∧ t.engine = s.engine ∧ t.player.active = s.player.active ∧
        t.player.scenes[n].fade = s.player.scenes[n].fade ∧ ∀ k : SceneNo, k ≠ n → t.player.scenes[k] = s.player.scenes[k] :=
    fun result => by simp
  by_cases hidle : s.store.state = .idle
  · by_cases hnamed : s.sceneGuarded n = true
    · rw [State.grantCapture_named hset hentry sender n hidle hnamed]; exact refused _
    · by_cases hfull : Config.scenePlaces - s.scenePlacesUsed + s.player.scenes[n].entries.length < s.captured.length
      · rw [State.grantCapture_full hset hentry sender n hidle hnamed hfull]; exact refused _
      · rw [State.grantCapture_stored hset hentry sender n hidle hnamed hfull, State.complete_claims, State.complete_engine,
          State.complete_player]
        refine ⟨rfl, rfl, rfl, ?_, fun k hk => set_other _ _ hk⟩
        rw [State.setScene_player, set_same]
  · rw [State.grantCapture_busy hset hentry sender n hidle]; exact refused _

/-! ### CAPTURE_SCENE (R92) -/

theorem captureScene_taken (s : State) (sender tag scene : Nat) (h : s.takes sender = true) :
    ∃ t, exec (.captureScene sender tag scene) s = .next t ∧
      (sceneOf scene = none → State.Answered sender tag .outOfRange [] s s t) ∧
      (∀ n, sceneOf scene = some n → s.store.state ≠ .idle ∨ s.recallInFlight = true →
        State.Answered sender tag .busy [] s s t) ∧
      (∀ n, sceneOf scene = some n → s.store.state = .idle → s.recallInFlight = false →
        State.Waiting sender tag s
          { s with claims := { s.claims with order := s.claims.order ++ [.capture sender n] } } t) := by
  refine ⟨_, congrArg Host.Outcome.next (State.takeRequest_of_taken h), fun hs => ?_, fun n hs hbusy => ?_,
    fun n hs hidle hrecall => ?_⟩
  · have hwork : (s.beginRequest sender tag).reqCaptureScene sender scene =
        (s.beginRequest sender tag).complete sender .outOfRange [] := by
      unfold State.reqCaptureScene
      rw [hs]
    rw [hwork]
    exact State.refused tag _ h
  · have hwork : (s.beginRequest sender tag).reqCaptureScene sender scene =
        (s.beginRequest sender tag).complete sender .busy [] := by
      unfold State.reqCaptureScene
      rw [hs]
      exact if_pos ((s.beginRequest sender tag).storeOrRecall_iff.mpr hbusy)
    rw [hwork]
    exact State.refused tag _ h
  · have hwork : (s.beginRequest sender tag).reqCaptureScene sender scene =
        (s.beginRequest sender tag).request (.capture sender n) := by
      unfold State.reqCaptureScene
      rw [hs]
      dsimp only
      rw [State.storeOrRecall_free (s := s.beginRequest sender tag) hidle hrecall]; rfl
    rw [hwork]
    exact State.waiting_of_taken h rfl rfl

/-- Settles O44: the request is refused or waits; the store, the deferred actions and the places decide its grant. -/
theorem capturesReadTheClaims : Obligations.CapturesReadTheClaims :=
  ⟨captureScene_taken, fun s sender tag n rest h ha => by
    have hset : s.takeHead.claims.openSet = none := h.1.2.1
    have hentry : ∀ c : Circuit, (s.takeHead.circ c).entry = none := h.1.2.2
    have hgrant : s.captureGrant = s.takeHead.grantCapture sender n := by
      unfold State.captureGrant
      rw [State.grantable_of_grants h]
    obtain ⟨hclaims, hengine, hactive, hfade, hothers⟩ := State.grantCapture_frame hset hentry sender n
    have hrest : s.takeHead.claims = { s.claims with order := rest } := by
      rw [State.takeHead_claims, h.2]; rfl
    refine ⟨_, congrArg Host.Outcome.next hgrant, hclaims.trans hrest, hengine, hactive, hfade, hothers,
      fun hbusy => ?_, fun hidle hnamed => ?_, fun hidle hnamed => ⟨fun hroom hused => ?_, fun hfull => ?_⟩⟩
    · rw [State.grantCapture_busy hset hentry sender n hbusy]
      exact ⟨State.complete_player _ _ _ _, ha.replyOf_complete (by rfl) (by rfl) _ _⟩
    · rw [State.grantCapture_named hset hentry sender n hidle ((State.sceneGuarded_at_capture h).mpr hnamed)]
      exact ⟨State.complete_player _ _ _ _, ha.replyOf_complete (by rfl) (by rfl) _ _⟩
    · have hguard := mt (State.sceneGuarded_at_capture h).mp hnamed
      have hplaces : ¬8192 - s.scenePlacesUsed + s.player.scenes[n].entries.length < s.takeHead.captured.length := by
        have hlength : s.takeHead.captured.length + s.scenePlacesUsed ≤ 8192 + s.player.scenes[n].entries.length := by
          rw [State.captured_length]; exact hroom
        omega
      rw [State.grantCapture_stored hset hentry sender n hidle hguard hplaces]
      have hstored : ∀ p, ((s.takeHead.setScene n { s.player.scenes[n] with entries := s.takeHead.captured }).complete sender .done
          p).player.scenes[n].entries = s.takeHead.captured := fun p => by
        rw [State.complete_player, State.setScene_player, set_same]
      refine ⟨?_, fun c level => ?_, ?_⟩
      · exact (hstored _).symm ▸ s.takeHead.captured_ascending
      · exact (hstored _).symm ▸ s.takeHead.mem_captured c level
      · rw [State.captured_length]
        exact ha.replyOf_complete (by rfl) (by rfl) _ _
    · have hguard := mt (State.sceneGuarded_at_capture h).mp hnamed
      have hplaces : 8192 - s.scenePlacesUsed + s.player.scenes[n].entries.length < s.takeHead.captured.length := by
        rw [State.captured_length]; exact hfull
      rw [State.grantCapture_full hset hentry sender n hidle hguard hplaces]
      exact ⟨State.complete_player _ _ _ _, ha.replyOf_complete (by rfl) (by rfl) _ _⟩⟩

end Sys2Proof.Machine
end

section
/-! SUPPORT. The Cue and Mode Unit under outcomes, replies and changes of the mode, and the commands that leave it or its mode. -/

namespace Sys2Proof.Machine

/-! ### Outcomes, and the change of the mode -/

@[simp] theorem State.outcome_cues (s : State) (st k : Nat) (ack : Bool) : (s.outcome st k ack).cues = s.cues := by
  rw [State.outcome_feedback_only]

@[simp] theorem State.settle_cues (s : State) (st k : Nat) (f : FeedbackKind) (refused : Bool) (l : List Circuit) :
    (s.settle st k f refused l).cues = s.cues := by
  rw [State.settle_feedback_only]

@[simp] theorem State.accept_cues (s : State) (st k : Nat) (f : FeedbackKind) (l : List Circuit) :
    (s.accept st k f l).cues = s.cues := s.settle_cues st k f false l

@[simp] theorem State.settleRecords_cues (pub : List Circuit) (l : List Applied) (s : State) :
    (State.settleRecords pub l s).cues = s.cues := by
  rw [State.settleRecords_feedback_only]

@[simp] theorem State.replyFires_cues (l : List Fire) (s : State) : (State.replyFires l s).cues = s.cues := by
  induction l generalizing s with
  | nil => rfl
  | cons f rest ih => exact (ih _).trans (s.complete_cues _ _ _)

/-- R108: a change to a mode writes the mode and the circuits' entries alone. -/
theorem State.changeMode_eq (s : State) (m : Mode) :
    s.changeMode m =
      { s with
        claims := { s.claims with circuits := (s.changeMode m).claims.circuits }
        cues := { s.cues with mode := m } } := by
  unfold State.changeMode
  split
  · next h => rw [h]
  · rfl

@[simp] theorem State.changeMode_cues (s : State) (m : Mode) : (s.changeMode m).cues = { s.cues with mode := m } := by
  rw [State.changeMode_eq]

/-! ### Grants, completions and safety events leave the unit -/

theorem State.claimActionGrant_cues (s : State) : s.claimActionGrant.cues = s.cues := by
  unfold State.claimActionGrant
  split
  · unfold State.grantClaimAction
    split
    · rw [State.settle_cues, State.closeSet_cues]
      exact (SetWork.applyWork _ _ _ _ _ _ _).cues
    · rfl
  · rfl

theorem State.absenceGrant_cues (s : State) : s.absenceGrant.cues = s.cues := by
  unfold State.absenceGrant
  split <;> rfl

theorem State.stationRemovalGrant_cues (s : State) : s.stationRemovalGrant.cues = s.cues := by
  unfold State.stationRemovalGrant
  split <;> rfl

theorem State.expiryGrant_cues (s : State) : s.expiryGrant.cues = s.cues := by
  unfold State.expiryGrant
  split <;> rfl

theorem State.setLevelGrant_cues (s : State) : s.setLevelGrant.cues = s.cues := by
  unfold State.setLevelGrant
  split
  · unfold State.grantSetLevel
    split
    · simp
    · rw [State.complete_cues, State.closeSet_cues]
      exact (SetWork.placeOne _ _ _).cues
  · rfl

theorem State.releaseLayerGrant_cues (s : State) : s.releaseLayerGrant.cues = s.cues := by
  unfold State.releaseLayerGrant
  split
  · simp [State.grantReleaseLayer]
  · rfl

theorem State.mergeRuleGrant_cues (s : State) : s.mergeRuleGrant.cues = s.cues := by
  unfold State.mergeRuleGrant
  split
  · simp [State.grantMergeRule]
  · rfl

theorem State.recallGrant_cues (s : State) : s.recallGrant.cues = s.cues := by
  unfold State.recallGrant
  split
  · exact (SetWork.recallPasses _ _).cues
  · rfl

theorem State.recallCompletion_cues (s : State) : s.recallCompletion.cues = s.cues := by
  unfold State.recallCompletion
  split
  · unfold State.completeRecall
    dsimp only
    split
    · simp
    · rfl
  · rfl

theorem State.releaseGrant_cues (s : State) : s.releaseGrant.cues = s.cues := by
  unfold State.releaseGrant
  split
  · simp [State.grantRelease]
  · rfl

theorem State.captureGrant_cues (s : State) : s.captureGrant.cues = s.cues := by
  unfold State.captureGrant
  split
  · unfold State.grantCapture
    repeat' split
    all_goals simp
  · rfl

theorem State.cueGrant_cues (s : State) : s.cueGrant.cues = s.cues := by
  unfold State.cueGrant
  split
  · exact (SetWork.applyRecords _ _).cues
  · rfl

theorem State.cueCompletion_cues (s : State) : s.cueCompletion.cues = s.cues := by
  unfold State.cueCompletion
  split
  · simp [State.completeCue]
  · rfl

theorem State.claimTimerExpiry_cues (s : State) : s.claimTimerExpiry.cues = s.cues := by
  unfold State.claimTimerExpiry
  repeat' split
  all_goals rfl

theorem State.egressAssertion_cues (s : State) : s.egressAssertion.cues = s.cues := by
  unfold State.egressAssertion
  split <;> rfl

theorem State.egressRelease_cues (s : State) : s.egressRelease.cues = s.cues := by
  unfold State.egressRelease
  split <;> rfl

theorem State.lineLossTimerExpiry_cues (s : State) : s.lineLossTimerExpiry.cues = s.cues := by
  unfold State.lineLossTimerExpiry
  split <;> rfl

theorem State.lineHeard_cues (s : State) : s.lineHeard.cues = s.cues := by
  rw [State.lineHeard_frame]

/-! ### Requests and answers leave the mode -/

@[simp] theorem State.startLossTimer_cues (s : State) : s.startLossTimer.cues = s.cues := by
  rw [State.startLossTimer_eq]

@[simp] theorem State.storeEntry_cues (sender station controls : Nat) (p : Privilege) (s : State) :
    (s.storeEntry sender station controls p).cues = s.cues := by
  have hinserted : ∀ k, (s.insertEntry station k p).cues = s.cues := fun k => by
    unfold State.insertEntry
    dsimp only
    split <;> simp
  have hreplaced : ∀ k, (s.replaceEntry station k p).cues = s.cues := fun _ => rfl
  unfold State.storeEntry
  dsimp only
  repeat' split
  all_goals simp [hinserted, hreplaced]

theorem State.reqEnrol_cues (sender station controls privilege : Nat) (s : State) :
    (s.reqEnrol sender station controls privilege).cues = s.cues := by
  unfold State.reqEnrol
  repeat' split
  all_goals simp

/-- R20: the entry's pending records go; the mode stays. -/
theorem State.removeEntry_mode (n : Nat) (e : RosterEntry) (s : State) : (s.removeEntry n e).cues.mode = s.cues.mode := by
  rw [State.removeEntry_eq, State.rosterEmptied_frame, State.strikeEntry_frame]

theorem State.reqDelete_mode (sender station : Nat) (s : State) : (s.reqDelete sender station).cues.mode = s.cues.mode := by
  unfold State.reqDelete
  repeat' split
  all_goals simp [State.removeEntry_mode]

theorem State.reqWriteCircuit_cues (sender circuit : Nat) (f : CircuitFields) (s : State) :
    (s.reqWriteCircuit sender circuit f).cues = s.cues := by
  have hrewrite : ∀ (t : State) c old new, (t.rewriteEgress c old new).cues = t.cues := fun t c old new => by
    rcases t.rewriteEgress_cases c old new with h | ⟨w, fade, h⟩ <;> rw [h]
    rfl
  unfold State.reqWriteCircuit State.storeCircuit
  dsimp only
  repeat' split
  all_goals simp [hrewrite]

/-- R107: no request of management writes the mode as it is taken, SET_MODE included. -/
theorem State.serve_mode (c : Instr) (s : State) : (s.serve c).cues.mode = s.cues.mode := by
  cases c with
  | enrol => exact congrArg CueBlock.mode (State.reqEnrol_cues _ _ _ _ s)
  | delete => exact State.reqDelete_mode _ _ s
  | writeCircuit => exact congrArg CueBlock.mode (State.reqWriteCircuit_cues _ _ _ s)
  | _ => exact State.mode_of_table (State.table_serve _ s (by simp) (by simp) (by simp))

theorem State.takeRequest_mode (sender tag : Nat) {work : State → State} (h : ∀ u, (work u).cues.mode = u.cues.mode) (s : State) :
    (s.takeRequest sender tag work).cues.mode = s.cues.mode := by
  unfold State.takeRequest
  split
  · exact h _
  · rfl

theorem State.handRecord_mode (sender : Nat) (r : Record) (s : State) : (s.handRecord sender r).cues.mode = s.cues.mode := by
  refine State.takeRequest_mode sender r.tag (fun u => ?_) s
  unfold State.checkRecord
  repeat' split
  · simp
  · simp
  · simp
  · simp
  · exact State.serve_mode _ u

theorem State.takeContents_mode (station controls : Nat) (takes : List Nat) (a : Answer) (s : State) :
    (s.takeContents station controls takes a).cues.mode = s.cues.mode := by
  cases a with
  | management r => exact State.handRecord_mode station r s
  | events l =>
    exact State.takeEvents_keeps (P := fun u => u.cues.mode = s.cues.mode)
      (fun u h => (congrArg CueBlock.mode u.claimActionGrant_cues).trans h)
      (fun u h => (State.mode_of_table u.table_takeEventRecord).trans h)
      (fun u r h => (State.mode_of_table (u.table_offerEvent r)).trans h) (fun _ h => h) l takes s rfl

theorem State.judgeValid_mode (n : Nat) (takes : List Nat) (a : Answer) (s : State) :
    (s.judgeValid n takes a).cues.mode = s.cues.mode := by
  unfold State.judgeValid
  split
  · exact (State.takeContents_mode _ _ _ _ _).trans (congrArg CueBlock.mode (State.lineHeard_cues _))
  · split
    · unfold State.serviceAnswer
      split
      · rfl
      · exact State.handRecord_mode _ _ s
    · unfold State.discovered
      split
      · exact State.mode_of_table (s.table_offerUnrouted _)
      · rfl

theorem State.answerReceived_mode (frame : Arrival) (s : State) : (s.answerReceived frame).cues.mode = s.cues.mode := by
  unfold State.answerReceived
  split
  · refine (State.mode_of_table (State.table_nextVisit _)).trans ?_
    unfold State.judgeFrame
    split
    · exact State.judgeValid_mode _ _ _ s
    · exact State.mode_of_table (State.table_judgeMiss _ _)
  · rfl
  · rfl

end Sys2Proof.Machine
end

section
/-! PROOFS. Every step but the grant of a mode change leaves the mode outside LOADING (O14). -/

namespace Sys2Proof.Machine

/-! ### Restarts and the end of loading -/

/-- R191: POLL_SENT leaves the mode, or restarts the part. -/
theorem State.pollSent_mode (s : State) : s.pollSent.part ≠ .loading → s.pollSent.cues.mode = s.cues.mode := by
  unfold State.pollSent
  split
  · split
    · exact fun h => absurd rfl h
    · unfold State.replySent
      split <;> exact fun _ => rfl
  · exact fun _ => rfl
  · exact fun _ => rfl

/-- R173: the entries to RUNNING and UNCONFIGURED take the mode as LOADING holds it. -/
theorem State.loadingEnd_mode (x : Contacts) (s : State) : (s.loadingEnd x).cues.mode = s.cues.mode := by
  unfold State.loadingEnd
  repeat' split
  · rw [State.enterRunning_frame rfl]; rfl
  · rw [State.enterUnconfigured_frame]; rfl
  · rfl

/-! ### The grant of a mode change (R106 to R108) -/

/-- R106: under the pin a change of the mode comes from a SET_MODE, which names the new mode. -/
theorem State.modeChangeGrant_pinned {s : State} (hpin : s.cues.pin = true) :
    s.modeChangeGrant.cues.mode ≠ s.cues.mode →
      ∃ sender rest, s.claims.order = .modeSet sender s.modeChangeGrant.cues.mode :: rest := by
  unfold State.modeChangeGrant
  split
  · simp [State.grantModeAction, hpin]
  · next sender m hg =>
    have hnew : (s.takeHead.grantModeSet sender m).cues.mode = m := by simp [State.grantModeSet]
    rw [hnew]
    exact fun _ => ⟨sender, _, State.order_of_grantable hg⟩
  · exact fun hm => absurd rfl hm

/-! ### Every step -/

/-- R105: every command but MODE_CHANGE_GRANT leaves the mode, unless it leads to LOADING. -/
theorem exec_mode {c : Instr} (s : State) (hc : c ≠ .modeChangeGrant) :
    ∃ t, exec c s = .next t ∧ (t.part ≠ .loading → t.cues.mode = s.cues.mode) := by
  have of_cues : ∀ {t : State}, t.cues = s.cues → t.part ≠ .loading → t.cues.mode = s.cues.mode := fun h _ => by rw [h]
  have of_table : ∀ {t : State}, t.table = s.table → t.part ≠ .loading → t.cues.mode = s.cues.mode := fun h _ =>
    State.mode_of_table h
  cases hf : requestForm c with
  | some f => exact ⟨_, exec_request hf s, fun _ => State.takeRequest_mode _ _ (State.serve_mode c) s⟩
  | none =>
    cases c with
    | powerOn => exact ⟨_, rfl, fun h => absurd rfl h⟩
    | powerLoss =>
      refine ⟨_, rfl, ?_⟩
      unfold State.powerLoss
      split
      · exact fun h => absurd rfl h
      · exact fun _ => rfl
    | loadingEnd => exact ⟨_, rfl, fun _ => State.loadingEnd_mode _ s⟩
    | pollSent => exact ⟨_, rfl, s.pollSent_mode⟩
    | answerReceived => exact ⟨_, rfl, fun _ => State.answerReceived_mode _ s⟩
    | answerWindowTimeout => exact ⟨_, rfl, of_table s.table_answerTimeout⟩
    | strayStationFrame => exact ⟨_, rfl, fun _ => rfl⟩
    | lineLossTimerExpiry => exact ⟨_, rfl, of_cues s.lineLossTimerExpiry_cues⟩
    | egressAssertion => exact ⟨_, rfl, of_cues s.egressAssertion_cues⟩
    | egressRelease => exact ⟨_, rfl, of_cues s.egressRelease_cues⟩
    | cueInputDebounced => exact ⟨_, rfl, of_table (State.table_cueInput _ _ s)⟩
    | takeEventRecord => exact ⟨_, rfl, of_table s.table_takeEventRecord⟩
    | claimActionGrant => exact ⟨_, rfl, of_cues s.claimActionGrant_cues⟩
    | absenceGrant => exact ⟨_, rfl, of_cues s.absenceGrant_cues⟩
    | stationRemovalGrant => exact ⟨_, rfl, of_cues s.stationRemovalGrant_cues⟩
    | claimTimerExpiry => exact ⟨_, rfl, of_cues s.claimTimerExpiry_cues⟩
    | expiryGrant => exact ⟨_, rfl, of_cues s.expiryGrant_cues⟩
    | setLevelGrant => exact ⟨_, rfl, of_cues s.setLevelGrant_cues⟩
    | releaseLayerGrant => exact ⟨_, rfl, of_cues s.releaseLayerGrant_cues⟩
    | mergeRuleGrant => exact ⟨_, rfl, of_cues s.mergeRuleGrant_cues⟩
    | recallGrant => exact ⟨_, rfl, of_cues s.recallGrant_cues⟩
    | recallCompletion => exact ⟨_, rfl, of_cues s.recallCompletion_cues⟩
    | releaseGrant => exact ⟨_, rfl, of_cues s.releaseGrant_cues⟩
    | captureGrant => exact ⟨_, rfl, of_cues s.captureGrant_cues⟩
    | cueGrant => exact ⟨_, rfl, of_cues s.cueGrant_cues⟩
    | cueCompletion => exact ⟨_, rfl, of_cues s.cueCompletion_cues⟩
    | modeChangeGrant => exact absurd rfl hc
    | fadeStepTimerExpiry => exact ⟨_, rfl, of_table s.table_fadeStep⟩
    | levelScheduleTimerExpiry => exact ⟨_, rfl, of_table s.table_levelSchedule⟩
    | statusScheduleTimerExpiry => exact ⟨_, rfl, of_table s.table_statusSchedule⟩
    | frameTransmitStart => exact ⟨_, rfl, of_table s.table_transmitStart⟩
    | frameTransmitEnd => exact ⟨_, rfl, of_table s.table_transmitEnd⟩
    | returnTimeout => exact ⟨_, rfl, of_table s.table_returnTimeout⟩
    | loopFrameReceived => exact ⟨_, rfl, of_table (s.table_loopFrameReceived _)⟩
    | saveCompletion => exact ⟨_, rfl, of_table (s.table_saveCompletion _)⟩
    | verifyCompletion => exact ⟨_, rfl, of_table s.table_verifyCompletion⟩
    | _ => cases hf

/-- Settles O14: of all commands the grant alone writes the mode, and under the pin a MODE action's grant does not. -/
theorem modeChangesOnlyAtItsGrant : Obligations.ModeChangesOnlyAtItsGrant := by
  intro s t h hpart hmode
  unfold step at h
  split at h
  · cases h
    exact absurd rfl hmode
  · next c rest hqueue =>
    by_cases hc : c = .modeChangeGrant
    · subst hc
      cases h
      exact ⟨⟨rest, hqueue⟩, fun hpin => State.modeChangeGrant_pinned (s := s.withPending rest) hpin hmode⟩
    · obtain ⟨u, hu, hkeeps⟩ := exec_mode (s.withPending rest) hc
      obtain rfl : u = t := Host.Outcome.next.inj (hu.symm.trans h)
      exact absurd (hkeeps hpart) hmode

end Sys2Proof.Machine
end

section
/-! PROOFS. CLEAR_PENDING (O48). -/

namespace Sys2Proof.Machine

/-! ### NACK to several owners (R154) -/

theorem State.hears_outcome (s : State) (n c st k : Nat) (ack : Bool) : (s.outcome n c ack).hears st k = s.hears st k := by
  rw [State.outcome_feedback_only]; rfl

/-- R154: a NACK that waits in its slot stays under a further NACK. -/
theorem State.nack_outcome {s : State} {st k : Nat} (n c : Nat) (h : s.shotOf st k = some false) :
    (s.outcome n c false).shotOf st k = some false := by
  by_cases hsame : st = n ∧ k = c
  · obtain ⟨rfl, rfl⟩ := hsame
    rcases s.outcome_cases st k false with ⟨-, he⟩ | ⟨hh, -⟩
    · rw [he]; exact h
    · exact State.shotOf_outcome_self false hh
  · rw [State.shotOf_outcome_other s false hsame]; exact h

theorem State.nack_nackEach (l : List Pending) {s : State} {st k : Nat} (h : s.shotOf st k = some false) :
    (State.nackEach l s).shotOf st k = some false := by
  induction l generalizing s with
  | nil => exact h
  | cons p rest ih => exact ih (State.nack_outcome p.station p.control h)

/-- R98, R154: every owner that can be heard has NACK waiting in the end. -/
theorem State.nackEach_shot {l : List Pending} {s : State} {p : Pending} (hp : p ∈ l)
    (hh : s.hears p.station p.control = true) : (State.nackEach l s).shotOf p.station p.control = some false := by
  induction l generalizing s with
  | nil => cases hp
  | cons q rest ih =>
    rcases List.mem_cons.mp hp with rfl | hp
    · exact State.nack_nackEach rest (State.shotOf_outcome_self false hh)
    · exact ih hp ((s.hears_outcome _ _ _ _ _).trans hh)

theorem State.nackEach_confirmations (l : List Pending) (s : State) :
    (State.nackEach l s).feedback.confirmations = s.feedback.confirmations := by
  induction l generalizing s with
  | nil => rfl
  | cons p rest ih =>
    refine (ih _).trans ?_
    rw [State.outcome_shots]

/-! ### Records that leave the list unapplied (R97, R98) -/

theorem State.dropPendings_frame (gone : Pending → Bool) (s : State) :
    s.dropPendings gone =
      { s with
        cues := { s.cues with pendings := s.cues.pendings.filter fun p => !gone p }
        feedback := (s.dropPendings gone).feedback } := by
  unfold State.dropPendings
  rw [State.nackEach_feedback_only]
  rfl

theorem State.dropPendings_confirmations (gone : Pending → Bool) (s : State) :
    (s.dropPendings gone).feedback.confirmations = s.feedback.confirmations :=
  State.nackEach_confirmations _ _

theorem State.dropPendings_shot {gone : Pending → Bool} {s : State} {p : Pending} (hp : p ∈ s.cues.pendings)
    (hgone : gone p = true) (hh : s.hears p.station p.control = true) :
    (s.dropPendings gone).shotOf p.station p.control = some false :=
  State.nackEach_shot (List.mem_filter.mpr ⟨hp, hgone⟩) hh

/-! ### CLEAR_PENDING (R98) -/

/-- R194: selector A is 0, B is 1, BOTH is 2. -/
theorem selectorOf_of_lt {n : Nat} (h : n < 3) : selectorOf n = some fun p => n == 2 || cueCode p.cue == n := by
  have hcue : ∀ x : Cue, (x == .a) = (cueCode x == 0) ∧ (x == .b) = (cueCode x == 1) := fun x => by cases x <;> decide
  match n, h with
  | 0, _ => simp [selectorOf, hcue]
  | 1, _ => simp [selectorOf, hcue]
  | 2, _ => simp [selectorOf]

theorem selectorOf_of_le {n : Nat} (h : 3 ≤ n) : selectorOf n = none := by
  unfold selectorOf
  split
  · omega
  · omega
  · omega
  · rfl

theorem State.complete_shotOf (s : State) (n : Nat) (r : Result) (p : List Byte) (st k : Nat) :
    (s.complete n r p).shotOf st k = s.shotOf st k := by
  unfold State.shotOf
  rw [State.complete_feedback]

/-- Settles O48: the named records go one after another with NACK, which changes nothing but the one-shots, and then the reply is
given. -/
theorem pendingRecordsAreCleared : Obligations.PendingRecordsAreCleared := fun s sender tag selector h => by
  refine ⟨_, congrArg Host.Outcome.next (State.takeRequest_of_taken h), fun hbad => ?_, fun hgood => ?_⟩
  · have hwork : (s.beginRequest sender tag).reqClearPending sender selector =
        (s.beginRequest sender tag).complete sender .outOfRange [] := by
      unfold State.reqClearPending
      rw [selectorOf_of_le hbad]
    rw [hwork]
    exact State.refused tag _ h
  · intro named
    have hwork : (s.beginRequest sender tag).reqClearPending sender selector =
        ((s.beginRequest sender tag).dropPendings named).complete sender .done
          (be16 (s.cues.pendings.filter named).length) := by
      unfold State.reqClearPending
      rw [selectorOf_of_lt hgood]; rfl
    have hframe := (s.beginRequest sender tag).dropPendings_frame named
    rw [hwork]
    refine ⟨State.answered_of_taken h (by rw [hframe]) (by rw [hframe]; rfl) ?_, ?_, fun p hp hnamed hh => ?_⟩
    · rw [State.complete_feedback, hframe]; rfl
    · rw [State.complete_feedback, State.dropPendings_confirmations]; rfl
    · rw [State.complete_shotOf]
      exact State.dropPendings_shot (s := s.beginRequest sender tag) hp hnamed hh

end Sys2Proof.Machine
end

section
/-! PROOFS. The cue contacts and FIRE_CUE (O46). -/

namespace Sys2Proof.Machine

/-! ### The waiting order after a cue event (R101) -/

/-- R101: the order after an event of a cue has taken records: they join the waiting requests of the cue, or wait as a request of
their own (`State.cueEvent_eq`). -/
def cueOrder (x : Cue) (took : List Pending) (fires : List Fire) (l : List Request) : List Request :=
  if l.any (·.isCue x) then l.map (Request.joined x took fires) else l ++ [.cue x took fires]

section Order
variable {x : Cue} (took : List Pending) (fires : List Fire)

theorem Request.joined_other {q : Request} (h : q.isCue x = false) : q.joined x took fires = q := by
  cases q with
  | cue y own waiting => exact if_neg (by simpa [Request.isCue] using h)
  | _ => rfl

theorem Request.map_joined_other {l : List Request} (h : ∀ q ∈ l, q.isCue x = false) :
    l.map (Request.joined x took fires) = l :=
  (List.map_congr_left fun q hq => Request.joined_other took fires (h q hq)).trans (List.map_id l)

theorem cueOrder_alone {l : List Request} (h : ∀ q ∈ l, q.isCue x = false) :
    cueOrder x took fires l = l ++ [.cue x took fires] :=
  if_neg (by simpa using h)

theorem cueOrder_joined {l before after : List Request} {own : List Pending} {waiting : List Fire}
    (hl : l = before ++ .cue x own waiting :: after) (h : ∀ q ∈ before ++ after, q.isCue x = false) :
    cueOrder x took fires l = before ++ .cue x (own ++ took) (waiting ++ fires) :: after := by
  have hself : (Request.cue x own waiting).joined x took fires = .cue x (own ++ took) (waiting ++ fires) := if_pos rfl
  have hb := Request.map_joined_other took fires fun q hq => h q (List.mem_append_left after hq)
  have ha := Request.map_joined_other took fires fun q hq => h q (List.mem_append_right before hq)
  subst hl
  unfold cueOrder
  rw [if_pos (by simp [Request.isCue]), List.map_append, List.map_cons, hself, hb, ha]

end Order

/-! ### A cue event (R100, R101) -/

/-- R101: an event that finds no record requests nothing. -/
theorem State.cueEvent_empty {x : Cue} {s : State} (h : s.cues.pendings.filter (·.cue == x) = []) : s.cueEvent x none = s := by
  unfold State.cueEvent
  rw [h]; rfl

/-- R100: a FIRE_CUE that finds no record is answered at once. -/
theorem State.cueEvent_fire_empty {x : Cue} {s : State} (h : s.cues.pendings.filter (·.cue == x) = []) (sender : Nat) :
    s.cueEvent x (some sender) = s.complete sender .done (be16 0) := by
  unfold State.cueEvent
  rw [h]; rfl

/-- R101: an event that finds records takes them out of the list and into the order. -/
theorem State.cueEvent_eq {x : Cue} {s : State} (h : s.cues.pendings.filter (·.cue == x) ≠ []) (fire : Option Nat) :
    s.cueEvent x fire =
      { s with
        cues := { s.cues with pendings := s.cues.pendings.filter (·.cue != x) }
        claims :=
          { s.claims with
            order := cueOrder x (s.cues.pendings.filter (·.cue == x))
              (fire.toList.map fun sender =>
                { station := sender, count := (s.cues.pendings.filter (·.cue == x)).length })
              s.claims.order } } := by
  unfold State.cueEvent cueOrder
  dsimp only
  rw [if_neg (by simpa using h)]
  show (if s.claims.order.any (·.isCue x) then _ else _) = _
  split <;> rfl

/-- The list that an event leaves when it finds no record. -/
theorem filter_cue_ne {x : Cue} {l : List Pending} (h : l.filter (·.cue == x) = []) : l.filter (·.cue != x) = l := by
  rw [List.filter_eq_nil_iff] at h
  exact List.filter_eq_self.mpr fun p hp => by simpa using h p hp

/-! ### The contacts (R99) -/

@[simp] theorem State.cueContact_setCueContact (s : State) (x : Cue) (b : Bool) : (s.setCueContact x b).cueContact x = b := by
  cases x <;> rfl

/-- R99: a contact is recorded in the unit, and nowhere else. -/
theorem State.setCueContact_frame (s : State) (x : Cue) (b : Bool) :
    s.setCueContact x b =
      { s with
        cues := { s.cues with cueA := (s.setCueContact x b).cues.cueA, cueB := (s.setCueContact x b).cues.cueB } } := by
  cases x <;> rfl

theorem State.cueContact_congr {s t : State} (ha : t.cues.cueA = s.cues.cueA) (hb : t.cues.cueB = s.cues.cueB) (x : Cue) :
    t.cueContact x = s.cueContact x := by
  cases x
  · exact ha
  · exact hb

/-- R99: a change of a contact outside LOADING. -/
theorem State.cueInput_changed {s : State} {x : Cue} {b : Bool} (hp : s.part ≠ .loading) (h : s.cueContact x = !b) :
    s.cueInput x b = if b then (s.setCueContact x true).cueEvent x none else s.setCueContact x false := by
  unfold State.cueInput
  rw [if_pos (by simp [State.active_of_ne hp, h])]

/-- A state that a contact holds already is no change (log entry 25). -/
theorem State.cueInput_held (s : State) (x : Cue) : s.cueInput x (s.cueContact x) = s := by
  unfold State.cueInput
  rw [if_neg (by simp)]

/-- R99, R101: the assertion of a released contact. -/
theorem cueContact_asserted (s : State) (x : Cue) (hp : s.part ≠ .loading) (h : s.cueContact x = false) :
    let took := s.cues.pendings.filter fun p => p.cue == x
    ∃ t, exec (.cueInputDebounced x true) s = .next t ∧ t.cueContact x = true ∧
      t.cues.pendings = s.cues.pendings.filter (fun p => p.cue != x) ∧ t.cues.mode = s.cues.mode ∧
      t.claims.circuits = s.claims.circuits ∧ t.mgmt = s.mgmt ∧ (took = [] → t.claims = s.claims) ∧
      (took ≠ [] → (∀ q ∈ s.claims.order, q.isCue x = false) → t.claims.order = s.claims.order ++ [.cue x took []]) ∧
      ∀ before own fires after, took ≠ [] → s.claims.order = before ++ .cue x own fires :: after →
        (∀ q ∈ before ++ after, q.isCue x = false) → t.claims.order = before ++ .cue x (own ++ took) fires :: after := by
  intro took
  have hinput := State.cueInput_changed (b := true) hp h
  rw [if_pos rfl] at hinput
  refine ⟨_, congrArg Host.Outcome.next hinput, ?_⟩
  have hframe := s.setCueContact_frame x true
  have hcontact := s.cueContact_setCueContact x true
  generalize s.setCueContact x true = u at hframe hcontact
  have htook : u.cues.pendings.filter (·.cue == x) = took := by rw [hframe]
  have hleft : u.cues.pendings.filter (·.cue != x) = s.cues.pendings.filter (·.cue != x) := by rw [hframe]
  have hmode : u.cues.mode = s.cues.mode := by rw [hframe]
  have hclaims : u.claims = s.claims := by rw [hframe]
  have hmgmt : u.mgmt = s.mgmt := by rw [hframe]
  by_cases hnone : took = []
  · rw [State.cueEvent_empty (htook.trans hnone)]
    refine ⟨hcontact, ?_, hmode, by rw [hclaims], hmgmt, fun _ => hclaims, fun hne => absurd hnone hne,
      fun _ _ _ _ hne => absurd hnone hne⟩
    rw [← hleft, filter_cue_ne (htook.trans hnone)]
  · rw [State.cueEvent_eq (htook ▸ hnone), hclaims, htook, hleft]
    exact ⟨(State.cueContact_congr rfl rfl x).trans hcontact, rfl, hmode, rfl, hmgmt, fun hnil => absurd hnil hnone,
      fun _ halone => cueOrder_alone took [] halone, fun before own fires after _ horder hothers =>
        (cueOrder_joined took [] horder hothers).trans (by rw [List.append_nil])⟩

/-! ### FIRE_CUE (R100) -/

theorem cueOf_cueCode (x : Cue) : cueOf (cueCode x) = some x := by cases x <;> rfl

theorem cueOf_of_le {n : Nat} (h : 2 ≤ n) : cueOf n = none := by
  unfold cueOf
  split
  · omega
  · omega
  · rfl

/-- R100, R101: FIRE_CUE of a cue: it waits for the cue with the number of records that it took, or is answered. -/
theorem fireCue_taken (s : State) (x : Cue) (sender tag : Nat) (h : s.takes sender = true) :
    let took := s.cues.pendings.filter fun p => p.cue == x
    let left := s.cues.pendings.filter fun p => p.cue != x
    ∃ t, exec (.fireCue sender tag (cueCode x)) s = .next t ∧
      (took = [] → State.Answered sender tag .done [0, 0] s s t) ∧
      (took ≠ [] → (∀ q ∈ s.claims.order, q.isCue x = false) →
        State.Waiting sender tag s
          { s with
            cues := { s.cues with pendings := left }
            claims :=
              { s.claims with
                order := s.claims.order ++ [.cue x took [{ station := sender, count := took.length }]] } } t) ∧
      ∀ before own fires after, took ≠ [] → s.claims.order = before ++ .cue x own fires :: after →
        (∀ q ∈ before ++ after, q.isCue x = false) →
        State.Waiting sender tag s
          { s with
            cues := { s.cues with pendings := left }
            claims :=
              { s.claims with
                order := before ++
                  .cue x (own ++ took) (fires ++ [{ station := sender, count := took.length }]) :: after } } t := by
  intro took left
  have hwork : (s.beginRequest sender tag).reqFireCue sender (cueCode x) =
      (s.beginRequest sender tag).cueEvent x (some sender) := by
    unfold State.reqFireCue
    rw [cueOf_cueCode]
  refine ⟨_, congrArg Host.Outcome.next ((State.takeRequest_of_taken h).trans hwork), fun hnone => ?_, fun hsome halone => ?_,
    fun before own fires after hsome horder hothers => ?_⟩
  · rw [State.cueEvent_fire_empty (s := s.beginRequest sender tag) hnone]
    exact State.answered_of_taken h rfl rfl rfl
  · rw [State.cueEvent_eq (s := s.beginRequest sender tag) hsome]
    rw [← cueOrder_alone took [{ station := sender, count := took.length }] halone]
    exact State.waiting_of_taken h rfl rfl
  · rw [State.cueEvent_eq (s := s.beginRequest sender tag) hsome]
    rw [← cueOrder_joined took [{ station := sender, count := took.length }] horder hothers]
    exact State.waiting_of_taken h rfl rfl

theorem fireCue_refused (s : State) {sender code : Nat} (tag : Nat) (h : s.takes sender = true) (hcode : 2 ≤ code) :
    ∃ t, exec (.fireCue sender tag code) s = .next t ∧ State.Answered sender tag .outOfRange [] s s t := by
  have hwork : (s.beginRequest sender tag).reqFireCue sender code =
      (s.beginRequest sender tag).complete sender .outOfRange [] := by
    unfold State.reqFireCue
    rw [cueOf_of_le hcode]
  exact ⟨_, congrArg Host.Outcome.next ((State.takeRequest_of_taken h).trans hwork), State.refused tag _ h⟩

/-- Settles O46: a contact and FIRE_CUE make the same cue event, which takes the records as `cueOrder` says. -/
theorem cueEventsTakeTheirRecords : Obligations.CueEventsTakeTheirRecords := fun s x hp =>
  ⟨cueContact_asserted s x hp,
    fun h => by
      refine ⟨_, congrArg Host.Outcome.next (State.cueInput_changed (b := false) hp h), s.cueContact_setCueContact x false, ?_⟩
      rw [if_neg Bool.false_ne_true, State.setCueContact_frame]
      exact ⟨rfl, rfl, rfl⟩,
    congrArg Host.Outcome.next (s.cueInput_held x),
    fun sender tag h => ⟨fireCue_taken s x sender tag h, fun _ hcode => fireCue_refused s tag h hcode⟩⟩

end Sys2Proof.Machine
end

section
/-! PROOFS. SET_MODE, and the grants of mode changes (O49). -/

namespace Sys2Proof.Machine

/-! ### The change of the mode within its set (R108) -/

/-- R108: the fade time with which a change to a mode enters a circuit, none when it does not. -/
def State.modeEntry (m : Mode) (c : Circuit) (s : State) : Option Nat :=
  if m ≠ s.cues.mode ∧ (s.circ c).claims.any (fun cl => cl.layer == .work) = true then some s.mgmt.settings.modeFade else none

theorem State.circ_changeMode_entered {s : State} {c : Circuit} (m : Mode) (h : (s.circ c).entry = none) :
    (s.changeMode m).circ c = { s.circ c with entry := s.modeEntry m c } := by
  have hstays : s.circ c = { s.circ c with entry := none } := by rw [← h]
  unfold State.changeMode State.modeEntry
  by_cases hm : m = s.cues.mode
  · rw [if_pos hm, if_neg fun hboth => hboth.1 hm]
    exact hstays
  · rw [if_neg hm, State.circ_enter]
    by_cases hw : (s.circ c).claims.any (·.layer == .work) = true
    · rw [if_pos hw, if_pos ⟨hm, hw⟩]; rfl
    · rw [if_neg hw, if_neg fun hboth => hw hboth.2]
      exact hstays

/-- R64, R108: a change of the mode in a set of its own, circuit by circuit. -/
theorem CircuitClosed.of_changeMode {s : State} {c : Circuit} (m : Mode) (h : (s.circ c).entry = none) :
    CircuitClosed s (s.changeMode m).closeSet c (s.circ c).claims (s.modeEntry m c) := by
  have hcirc := State.circ_changeMode_entered m h
  have hengine : (s.changeMode m).engine = s.engine := by rw [State.changeMode_eq]
  cases hentry : s.modeEntry m c with
  | some fade =>
    rw [hentry] at hcirc
    exact .of_entered hcirc hengine
  | none =>
    have hsame : (s.changeMode m).circ c = s.circ c := by rw [hcirc, hentry, ← h]
    obtain ⟨hc, he⟩ := State.closeSet_unentered (hsame ▸ h)
    refine ⟨hc.trans hsame, he.trans ?_⟩
    unfold State.eng
    rw [hengine]

/-! ### SET_MODE (R107) -/

theorem modeOf_code (m : Mode) : modeOf m.code = some m := by cases m <;> rfl

theorem modeOf_of_le {n : Nat} (h : 2 ≤ n) : modeOf n = none := by
  unfold modeOf
  split
  · omega
  · omega
  · rfl

theorem yesNoOf_of_lt {n : Nat} (h : n < 2) : yesNoOf n = some (n == 1) := by
  match n, h with
  | 0, _ => rfl
  | 1, _ => rfl

/-- R107: SET_MODE up to the arbiter. -/
theorem setMode_taken (s : State) (sender tag mode pin : Nat) (h : s.takes sender = true) :
    ∃ t, exec (.setMode sender tag mode pin) s = .next t ∧
      (2 ≤ mode ∨ 2 ≤ pin → State.Answered sender tag .outOfRange [] s s t) ∧
      ∀ m : Mode, mode = m.code → pin < 2 →
        State.Waiting sender tag s
          { s with
            cues := { s.cues with pin := pin == 1 }
            claims := { s.claims with order := s.claims.order ++ [.modeSet sender m] } } t := by
  refine ⟨_, congrArg Host.Outcome.next (State.takeRequest_of_taken h), fun hbad => ?_, fun m hm hpin => ?_⟩
  · have hwork : (s.beginRequest sender tag).reqSetMode sender mode pin =
        (s.beginRequest sender tag).complete sender .outOfRange [] := by
      unfold State.reqSetMode
      rcases hbad with hmode | hpin
      · rw [modeOf_of_le hmode]
      · rw [(yesNoOf_eq_none_iff pin).mpr hpin]
        cases modeOf mode <;> rfl
    rw [hwork]
    exact State.refused tag _ h
  · have hwork : (s.beginRequest sender tag).reqSetMode sender mode pin =
        State.request (.modeSet sender m)
          { s.beginRequest sender tag with cues := { s.cues with pin := pin == 1 } } := by
      unfold State.reqSetMode
      rw [hm, modeOf_code, yesNoOf_of_lt hpin]; rfl
    rw [hwork]
    exact State.waiting_of_taken h rfl rfl

/-! ### The grants (R106, R107) -/

/-- R107: MODE_CHANGE_GRANT of a SET_MODE. -/
theorem setMode_granted {s : State} {sender tag : Nat} {m : Mode} {rest : List Request} (h : s.Grants (.modeSet sender m) rest)
    (ha : s.Awaits sender tag) :
    ∃ t, exec .modeChangeGrant s = .next t ∧ t.claims.order = rest ∧ t.cues = { s.cues with mode := m } ∧
      t.replyOf sender = some { tag := tag, result := .done, payload := [] } ∧
      ∀ c : Circuit, CircuitClosed s t c (s.circ c).claims (s.modeEntry m c) := by
  have hgrant : s.modeChangeGrant = (s.takeHead.changeMode m).closeSet.complete sender .done [] := by
    unfold State.modeChangeGrant
    rw [State.grantable_of_grants h]; rfl
  refine ⟨_, congrArg Host.Outcome.next hgrant, ?_, by simp, ha.replyOf_complete ?_ ?_ _ _, fun c => ?_⟩
  · rw [State.complete_claims, State.closeSet_order, State.changeMode_eq]
    exact State.takeHead_order h
  · rw [State.closeSet_mgmt, State.changeMode_eq]; rfl
  · rw [State.closeSet_line, State.changeMode_eq]; rfl
  · exact (CircuitClosed.of_changeMode (s := s.takeHead) m (h.1.2.2 c)).congr (State.complete_claims _ _ _ _)
      (State.complete_engine _ _ _ _) (State.complete_cues _ _ _ _)

/-- R106: the operation decides the mode from the one held. -/
theorem ModeOp.decide_eq (op : ModeOp) (held : Mode) :
    op.decide held =
      match op with
      | .enter => .performance
      | .leave => .work
      | .toggle => if held = .work then .performance else .work := by
  cases op with
  | enter | leave => rfl
  | toggle => cases held <;> rfl

/-- R106: a MODE action that is granted under the pin. -/
theorem modeAction_pinned {s : State} {op : ModeOp} {station control : Nat} {rest : List Request}
    (h : s.Grants (.modeAction op station control) rest) (hpin : s.cues.pin = true) :
    s.modeChangeGrant = s.takeHead.outcome station control false := by
  have hempty : s.takeHead.closeSet = s.takeHead := State.closeSet_of_empty h.1.2.1 h.1.2.2
  unfold State.modeChangeGrant State.grantModeAction
  rw [State.grantable_of_grants h]
  exact (if_pos hpin).trans (congrArg (State.outcome station control false) hempty)

/-- R106: a MODE action that is granted without the pin. -/
theorem modeAction_free {s : State} {op : ModeOp} {station control : Nat} {rest : List Request}
    (h : s.Grants (.modeAction op station control) rest) (hpin : s.cues.pin = false) :
    s.modeChangeGrant = (s.takeHead.changeMode (op.decide s.cues.mode)).closeSet.outcome station control true := by
  unfold State.modeChangeGrant State.grantModeAction
  rw [State.grantable_of_grants h]
  exact if_neg (by simp [hpin])

/-- R106: MODE_CHANGE_GRANT of a MODE action. -/
theorem modeAction_granted {s : State} {op : ModeOp} {station control : Nat} {rest : List Request}
    (h : s.Grants (.modeAction op station control) rest) :
    ∃ t, exec .modeChangeGrant s = .next t ∧ t.claims.order = rest ∧
      (s.cues.pin = true → t.cues = s.cues ∧ t.claims = { s.claims with order := rest } ∧ t.engine = s.engine ∧
        (s.hears station control = true → t.shotOf station control = some false)) ∧
      (s.cues.pin = false →
        t.cues.mode = op.decide s.cues.mode ∧
        (∀ c : Circuit, CircuitClosed s t c (s.circ c).claims (s.modeEntry t.cues.mode c)) ∧
        (s.hears station control = true → t.shotOf station control = some true)) := by
  have hrest := State.takeHead_order h
  cases hpin : s.cues.pin with
  | true =>
    refine ⟨_, congrArg Host.Outcome.next (modeAction_pinned h hpin), ?_,
      fun _ => ⟨State.outcome_cues _ _ _ _, ?_, ?_, fun hh => State.shotOf_outcome_self false hh⟩, nofun⟩
    · rw [State.outcome_feedback_only]; exact hrest
    · rw [State.outcome_feedback_only, ← hrest]; rfl
    · rw [State.outcome_feedback_only]; rfl
  | false =>
    have hmode : ((s.takeHead.changeMode (op.decide s.cues.mode)).closeSet.outcome station control true).cues.mode =
        op.decide s.cues.mode := by simp
    refine ⟨_, congrArg Host.Outcome.next (modeAction_free h hpin), ?_, nofun, fun _ => ⟨hmode, fun c => ?_, fun hh => ?_⟩⟩
    · rw [State.outcome_feedback_only]
      show (s.takeHead.changeMode _).closeSet.claims.order = rest
      rw [State.closeSet_order, State.changeMode_eq]
      exact hrest
    · have hclosed := CircuitClosed.of_changeMode (s := s.takeHead) (op.decide s.cues.mode) (h.1.2.2 c)
      rw [hmode, State.outcome_feedback_only]
      exact hclosed.congr rfl rfl rfl
    · refine State.shotOf_outcome_self true ?_
      unfold State.hears State.entryOf
      rw [State.closeSet_line, State.changeMode_eq]
      exact hh

/-- Settles O49: the pin is written as SET_MODE is taken; a grant changes the mode in a set that closes at once. -/
theorem modeChangesAreGranted : Obligations.ModeChangesAreGranted :=
  ⟨setMode_taken, fun _ _ _ _ _ h ha => setMode_granted h ha, fun s op station control rest h => by
    obtain ⟨t, hexec, horder, hpinned, hfree⟩ := modeAction_granted h
    refine ⟨t, hexec, horder, hpinned, fun hpin => ?_⟩
    obtain ⟨hmode, hclosed, hshot⟩ := hfree hpin
    exact ⟨hmode.trans (ModeOp.decide_eq op s.cues.mode), hclosed, hshot⟩⟩

end Sys2Proof.Machine
end

section
/-! PROOFS. Fades (O37), masters (O38), and the way from the current level to the output code (O39). -/

namespace Sys2Proof.Machine

/-! ### The rounded quotient of a fade (R115) -/

/-- R115: before the last step the rounded quotient does not pass the whole distance. -/
theorem roundHalfUp_mul_le {k n : Nat} (d : Nat) (h : k < n) : roundHalfUp (d * k) n ≤ d := by
  have hdk : d * k ≤ d * n := Nat.mul_le_mul_left d h.le
  unfold roundHalfUp
  refine Nat.le_of_lt_succ ((Nat.div_lt_iff_lt_mul (by omega)).mpr ?_)
  calc 2 * (d * k) + n < 2 * (d * n) + 2 * n := by omega
    _ = (d + 1) * (2 * n) := by ring

theorem fadeLevel_up (start d k n : Nat) : fadeLevel start (start + d) k n = start + roundHalfUp (d * k) n := by
  simp [fadeLevel]

theorem fadeLevel_down (target k n : Nat) {d : Nat} (hd : 0 < d) :
    fadeLevel (target + d) target k n = target + d - roundHalfUp (d * k) n := by
  have hnot : ¬target + d ≤ target := by omega
  simp [fadeLevel, hnot]

/-- A fade either goes up by a distance, or goes down by one above 0. -/
theorem fade_direction (start target : Nat) :
    (∃ d, target = start + d) ∨ ∃ d, 0 < d ∧ start = target + d := by
  rcases Nat.lt_or_ge target start with h | h
  · exact .inr ⟨start - target, by omega, by omega⟩
  · exact .inl ⟨target - start, by omega⟩

theorem fadeLevel_between (start target : Nat) {k n : Nat} (h : k < n) :
    min start target ≤ fadeLevel start target k n ∧ fadeLevel start target k n ≤ max start target := by
  rcases fade_direction start target with ⟨d, rfl⟩ | ⟨d, hd, rfl⟩
  · have hle := roundHalfUp_mul_le d h
    rw [fadeLevel_up]
    omega
  · have hle := roundHalfUp_mul_le d h
    rw [fadeLevel_down target k n hd]
    omega

/-- R115: the level is the start plus the exact quotient, rounded half away from zero. -/
theorem fadeLevel_eq_quotient (start target : Nat) {k n : Nat} (h : k < n) :
    (fadeLevel start target k n : Int) =
      (start : Int) + Int.sign ((target : Int) - start) *
        ((2 * ((((target : Int) - start) * k).natAbs : Int) + n) / (2 * n)) := by
  have hcast : ∀ d : Nat, ((roundHalfUp (d * k) n : Nat) : Int) = (2 * (((d : Int) * k).natAbs : Int) + n) / (2 * n) := by
    intro d
    rw [Int.natAbs_mul, Int.natAbs_natCast, Int.natAbs_natCast]
    unfold roundHalfUp
    push_cast
    rfl
  rcases fade_direction start target with ⟨d, rfl⟩ | ⟨d, hd, rfl⟩
  · have hdist : ((start + d : Nat) : Int) - start = d := by omega
    rw [fadeLevel_up, hdist, ← hcast]
    rcases Nat.eq_zero_or_pos d with rfl | hd
    · have hzero : roundHalfUp (0 * k) n = 0 := Nat.le_zero.mp (roundHalfUp_mul_le 0 h)
      rw [hzero]
      simp
    · rw [Int.sign_eq_one_of_pos (by omega), one_mul]
      push_cast
      rfl
  · have hdist : (target : Int) - (target + d : Nat) = -d := by omega
    have hle := roundHalfUp_mul_le d h
    rw [fadeLevel_down target k n hd, hdist, neg_mul, Int.natAbs_neg, ← hcast, Int.sign_eq_neg_one_of_neg (by omega)]
    omega

/-! ### Publications and fade steps on one circuit (R113, R115) -/

/-- R112, R113: a publication of the target that the fade record holds. -/
theorem EngineCircuit.published_same (masters : Vector Nat 4) {e : EngineCircuit} {p : Publication}
    (h : p.target = e.fadeTarget) :
    e.published masters p = EngineCircuit.recoded masters { e with target := p.target, safety := p.safety } :=
  congrArg (EngineCircuit.recoded masters) (if_pos h)

/-- R112, R113: a publication of another target. -/
theorem EngineCircuit.published_new (masters : Vector Nat 4) {e : EngineCircuit} {p : Publication}
    (h : p.target ≠ e.fadeTarget) :
    e.published masters p =
      EngineCircuit.recoded masters
        { e with
          target := p.target, safety := p.safety, fadeStart := e.level, fadeTarget := p.target, fadeSteps := 5 * p.fade,
          fadeTaken := 0, fadeActive := 0 < 5 * p.fade, level := if 0 < 5 * p.fade then e.level else p.target } :=
  congrArg (EngineCircuit.recoded masters) (if_neg h)

/-- R112, R113: every publication. -/
theorem EngineCircuit.published_spec (masters : Vector Nat 4) (e : EngineCircuit) (p : Publication) :
    let x := e.published masters p
    x.attr = e.attr ∧ x.target = p.target ∧ x.safety = (p.winner == .safety) ∧
    x.code = outputCode masters { x with code := e.code } ∧
    (p.target = e.fadeTarget → x.fadeActive = e.fadeActive ∧ x.fadeStart = e.fadeStart ∧
      x.fadeTarget = e.fadeTarget ∧ x.fadeSteps = e.fadeSteps ∧ x.fadeTaken = e.fadeTaken ∧ x.level = e.level) ∧
    (p.target ≠ e.fadeTarget → x.fadeStart = e.level ∧ x.fadeTarget = p.target ∧ x.fadeSteps = 5 * p.fade ∧
      x.fadeTaken = 0 ∧ (p.fade = 0 → x.fadeActive = false ∧ x.level = p.target) ∧
      (p.fade ≠ 0 → x.fadeActive = true ∧ x.level = e.level)) := by
  by_cases h : p.target = e.fadeTarget
  · rw [EngineCircuit.published_same masters h]
    exact ⟨rfl, rfl, rfl, rfl, fun _ => ⟨rfl, rfl, rfl, rfl, rfl, rfl⟩, fun hne => absurd h hne⟩
  · rw [EngineCircuit.published_new masters h]
    refine ⟨rfl, rfl, rfl, rfl, fun heq => absurd heq h, fun _ => ⟨rfl, rfl, rfl, rfl, fun hfade => ?_, fun hfade => ?_⟩⟩
    · simp [EngineCircuit.recoded, hfade]
    · simp [EngineCircuit.recoded, Nat.pos_of_ne_zero hfade]

theorem EngineCircuit.stepped_inactive (masters : Vector Nat 4) {e : EngineCircuit} (h : e.fadeActive = false) :
    e.stepped masters = e := by
  simp [EngineCircuit.stepped, EngineCircuit.faderStep, h]

/-- R115: a step of an active fade before its last. -/
theorem EngineCircuit.faderStep_within {e : EngineCircuit} (h : e.fadeActive = true) (hk : e.fadeTaken + 1 < e.fadeSteps) :
    e.faderStep =
      { e with
        fadeTaken := e.fadeTaken + 1
        level := fadeLevel e.fadeStart e.fadeTarget (e.fadeTaken + 1) e.fadeSteps } := by
  simp [EngineCircuit.faderStep, h, hk]

/-- R115: the last step of an active fade. -/
theorem EngineCircuit.faderStep_last {e : EngineCircuit} (h : e.fadeActive = true) (hk : e.fadeSteps ≤ e.fadeTaken + 1) :
    e.faderStep = { e with fadeTaken := e.fadeTaken + 1, level := e.fadeTarget, fadeActive := false } := by
  simp [EngineCircuit.faderStep, h, Nat.not_lt.mpr hk]

theorem EngineCircuit.faderStep_code (e : EngineCircuit) : e.faderStep.code = e.code := by
  unfold EngineCircuit.faderStep
  dsimp only
  split
  · split <;> rfl
  · rfl

/-- R114, R123: an expiry takes the fade's step, and recomputes the code of a changed level. -/
theorem EngineCircuit.stepped_eq (masters : Vector Nat 4) (e : EngineCircuit) :
    e.stepped masters =
      { e.faderStep with
        code := if e.faderStep.level = e.level then e.code else outputCode masters e.faderStep } := by
  unfold EngineCircuit.stepped
  split
  · rw [← e.faderStep_code]
  · rfl

/-- R115: one step of an active fade. -/
theorem EngineCircuit.stepped_active (masters : Vector Nat 4) {e : EngineCircuit} (h : e.fadeActive = true) :
    let k := e.fadeTaken + 1
    let x := e.stepped masters
    x.attr = e.attr ∧ x.target = e.target ∧ x.safety = e.safety ∧ x.fadeStart = e.fadeStart ∧
    x.fadeTarget = e.fadeTarget ∧ x.fadeSteps = e.fadeSteps ∧ x.fadeTaken = k ∧
    (e.fadeSteps ≤ k → x.level = e.fadeTarget ∧ x.fadeActive = false) ∧
    (k < e.fadeSteps → x.fadeActive = true ∧ x.level = fadeLevel e.fadeStart e.fadeTarget k e.fadeSteps) ∧
    x.code = if x.level = e.level then e.code else outputCode masters x := by
  rw [EngineCircuit.stepped_eq]
  rcases Nat.lt_or_ge (e.fadeTaken + 1) e.fadeSteps with hk | hk
  · rw [EngineCircuit.faderStep_within h hk]
    exact ⟨rfl, rfl, rfl, rfl, rfl, rfl, rfl, fun hle => absurd hk (Nat.not_lt.mpr hle), fun _ => ⟨h, rfl⟩, rfl⟩
  · rw [EngineCircuit.faderStep_last h hk]
    exact ⟨rfl, rfl, rfl, rfl, rfl, rfl, rfl, fun _ => ⟨rfl, rfl⟩, fun hlt => absurd hlt (Nat.not_lt.mpr hk), rfl⟩

/-! ### The fade-step timer (R114) -/

theorem State.fadeStep_frame (s : State) :
    s.fadeStep = { s with engine := { s.engine with circuits := s.fadeStep.engine.circuits } } := by
  unfold State.fadeStep
  split <;> rfl

theorem State.eng_fadeStep {s : State} (h : s.part ≠ .loading) (c : Circuit) :
    s.fadeStep.eng c = (s.eng c).stepped s.engine.masters := by
  unfold State.fadeStep
  rw [if_pos (State.active_of_ne h)]
  exact getElem_mapTable _ _ c

/-- Settles O37: a publication keeps or restarts the fade record; an expiry takes the step of every circuit. -/
theorem fadesRunToTheirTargets : Obligations.FadesRunToTheirTargets := by
  refine ⟨EngineCircuit.published_spec, fun s hpart => ⟨_, rfl, s.fadeStep_frame, fun c => ?_⟩⟩
  rw [State.eng_fadeStep hpart]
  refine ⟨fun h => EngineCircuit.stepped_inactive _ h, fun h => ?_⟩
  obtain ⟨hattr, htarget, hsafety, hstart, hfade, hsteps, htaken, hlast, hwithin, hcode⟩ :=
    EngineCircuit.stepped_active s.engine.masters h
  refine ⟨hattr, htarget, hsafety, hstart, hfade, hsteps, htaken, hlast, fun hk => ?_, hcode⟩
  obtain ⟨hactive, hlevel⟩ := hwithin hk
  obtain ⟨hlow, hhigh⟩ := fadeLevel_between (s.eng c).fadeStart (s.eng c).fadeTarget hk
  rw [hlevel]
  exact ⟨hactive, hlow, hhigh, fadeLevel_eq_quotient _ _ hk⟩

/-! ### SET_MASTER (R118, R119) -/

theorem indexOf_val {n : Nat} (i : Fin n) : indexOf n i.val = some i := dif_pos i.isLt

theorem indexOf_of_le {n k : Nat} (h : n ≤ k) : indexOf n k = none := dif_neg (Nat.not_lt.mpr h)

theorem doneOr_decide_lt (bound value : Nat) : doneOr (bound < value) = if value ≤ bound then .done else .adjusted := by
  unfold doneOr
  by_cases h : value ≤ bound <;> simp [h]

theorem State.eng_writeMaster (s : State) (m : Master) (v : Nat) (c : Circuit) :
    (s.writeMaster m v).eng c =
      if (s.eng c).attr.masterGroup = some m ∧ (s.eng c).safety = false then
        { s.eng c with code := outputCode (s.engine.masters.set m v) (s.eng c) }
      else s.eng c :=
  getElem_mapTable _ _ c

/-- Settles O38: the request is refused by its number, or is the write of one master. -/
theorem setMasterRecomputesItsCircuits : Obligations.SetMasterRecomputesItsCircuits := by
  intro s sender tag master value h
  refine ⟨_, congrArg Host.Outcome.next (State.takeRequest_of_taken h), fun hbad => ?_, fun m hm => ?_⟩
  · have hwork : (s.beginRequest sender tag).reqSetMaster sender master value =
        (s.beginRequest sender tag).complete sender .outOfRange [] := by
      unfold State.reqSetMaster
      rw [indexOf_of_le hbad]
    rw [hwork]
    exact State.refused tag _ h
  · have hwork : (s.beginRequest sender tag).reqSetMaster sender master value =
        ((s.beginRequest sender tag).writeMaster m (min value 1000)).complete sender
          (if value ≤ 1000 then .done else .adjusted) [] := by
      unfold State.reqSetMaster
      rw [hm, indexOf_val, doneOr_decide_lt]
    rw [hwork, State.complete_engine]
    refine ⟨State.answered_of_taken h rfl rfl rfl, set_same _ _ _, fun k hk => set_other _ _ hk, fun c => ?_⟩
    rw [State.complete_eng]
    exact State.eng_writeMaster _ _ _ _

/-! ### Trims and curves (R117, R120 to R122) -/

theorem trimmedLevel_clear {a : Attr} (h : a.curve ≠ .switched) (scaled : Nat) :
    trimmedLevel a false scaled = max (min scaled a.topSet) (min a.preheat a.topSet) := by
  unfold trimmedLevel
  cases hc : a.curve with
  | linear | square => rfl
  | switched => exact absurd hc h

theorem trimmedLevel_safety {a : Attr} (h : a.curve ≠ .switched) (scaled : Nat) :
    trimmedLevel a true scaled = max scaled a.preheat := by
  unfold trimmedLevel
  cases hc : a.curve with
  | linear | square => rfl
  | switched => exact absurd hc h

theorem trimmedLevel_switched {a : Attr} (h : a.curve = .switched) (safety : Bool) (scaled : Nat) :
    trimmedLevel a safety scaled = if safety then scaled else min scaled a.topSet := by
  unfold trimmedLevel
  rw [h]

/-- R120: U with the safety flag clear. -/
theorem trimmedLevel_clear_spec (a : Attr) (scaled : Nat) :
    let u := trimmedLevel a false scaled
    (a.curve ≠ .switched → u = max (min scaled a.topSet) (min a.preheat a.topSet) ∧
      (a.preheat ≤ a.topSet → min a.preheat a.topSet = a.preheat ∧ (scaled = 0 → u = a.preheat))) ∧
    (a.curve = .switched → u = min scaled a.topSet) ∧ (a.topSet = 0 → u = 0) := by
  by_cases hc : a.curve = .switched
  · rw [trimmedLevel_switched hc]
    refine ⟨fun h => absurd hc h, fun _ => rfl, fun h => ?_⟩
    rw [h]
    exact Nat.min_zero scaled
  · rw [trimmedLevel_clear hc]
    exact ⟨fun _ => ⟨rfl, fun hle => ⟨Nat.min_eq_left hle, fun h => by omega⟩⟩, fun h => absurd h hc, fun h => by omega⟩

theorem attrOf_preheat_le {f : CircuitFields} {a : Attr} (h : attrOf f = some a) : a.preheat ≤ a.topSet := by
  obtain ⟨htop, hpre, -⟩ := attrOf_spec h
  rw [htop, hpre]
  exact Nat.min_le_right _ _

theorem scaledLevel_unmastered (masters : Vector Nat 4) {e : EngineCircuit}
    (h : e.safety = true ∨ e.attr.masterGroup = none) : scaledLevel masters e = e.level := by
  unfold scaledLevel
  rcases h with h | h <;> simp [h]

theorem scaledLevel_mastered (masters : Vector Nat 4) {e : EngineCircuit} {m : Master} (hs : e.safety = false)
    (hm : e.attr.masterGroup = some m) : scaledLevel masters e = (e.level * masters[m] + 500) / 1000 := by
  simp [scaledLevel, hs, hm]

/-- R117: at level 0, or with the master at 0, the scaled level is 0. -/
theorem scaledLevel_zero (masters : Vector Nat 4) (e : EngineCircuit) (hs : e.safety = false) :
    (e.level = 0 → scaledLevel masters e = 0) ∧
    (∀ m : Master, e.attr.masterGroup = some m → masters[m] = 0 → scaledLevel masters e = 0) := by
  refine ⟨fun h => ?_, fun m hm h => ?_⟩
  · cases hm : e.attr.masterGroup with
    | none => rw [scaledLevel_unmastered masters (.inr hm), h]
    | some m => rw [scaledLevel_mastered masters hs hm, h, Nat.zero_mul]
  · rw [scaledLevel_mastered masters hs hm, h, Nat.mul_zero]

theorem curveCode_linear {a : Attr} (h : a.curve = .linear) (u : Nat) : curveCode a u = (u * 65535 + 500) / 1000 := by
  unfold curveCode
  rw [h]

theorem curveCode_square {a : Attr} (h : a.curve = .square) (u : Nat) :
    curveCode a u = (u * u * 65535 + 500000) / 1000000 := by
  unfold curveCode
  rw [h]

theorem curveCode_switched {a : Attr} (h : a.curve = .switched) (u : Nat) :
    curveCode a u = if a.switchPoint ≤ u then 65535 else 0 := by
  unfold curveCode
  rw [h]

theorem curveCode_le (a : Attr) {u : Nat} (hu : u ≤ 1000) : curveCode a u ≤ 65535 := by
  cases hc : a.curve with
  | linear =>
    rw [curveCode_linear hc]
    omega
  | square =>
    have hsquare : u * u ≤ 1000 * 1000 := Nat.mul_le_mul hu hu
    rw [curveCode_square hc]
    omega
  | switched =>
    rw [curveCode_switched hc]
    split <;> omega

/-- R122: the linear curve. -/
theorem curveCode_linear_spec {a : Attr} (hc : a.curve = .linear) {u : Nat} (hu : u ≤ 1000) :
    curveCode a u = (u * 65535 + 500) / 1000 ∧ (u = 0 → curveCode a u = 0) ∧ (u = 1000 → curveCode a u = 65535) ∧
      (∀ v ≤ u, curveCode a v ≤ curveCode a u) ∧ 10 * (u * 65535 + 500) ≤ 655355 * 1000 := by
  have hcode := curveCode_linear hc
  refine ⟨hcode u, fun h => ?_, fun h => ?_, fun v hv => ?_, by omega⟩
  · rw [hcode, h]
  · rw [hcode, h]
  · rw [hcode, hcode]
    omega

/-- R122: the square curve. -/
theorem curveCode_square_spec {a : Attr} (hc : a.curve = .square) {u : Nat} (hu : u ≤ 1000) :
    curveCode a u = (u * u * 65535 + 500000) / 1000000 ∧ (u = 0 → curveCode a u = 0) ∧
      (u = 1000 → curveCode a u = 65535) ∧ (∀ v ≤ u, curveCode a v ≤ curveCode a u) ∧
      10 * (u * u * 65535 + 500000) ≤ 655355 * 1000000 := by
  have hcode := curveCode_square hc
  have hsquare : u * u ≤ 1000 * 1000 := Nat.mul_le_mul hu hu
  refine ⟨hcode u, fun h => ?_, fun h => ?_, fun v hv => ?_, by omega⟩
  · rw [hcode, h]
  · rw [hcode, h]
  · have hsquares : v * v ≤ u * u := Nat.mul_le_mul hv hv
    rw [hcode, hcode]
    omega

/-- R122: the switched curve, which reads no preheat. -/
theorem curveCode_switched_spec {a : Attr} (hc : a.curve = .switched) (u : Nat) :
    (a.switchPoint ≤ u → curveCode a u = 65535) ∧ (u < a.switchPoint → curveCode a u = 0) ∧
      ∀ x, curveCode { a with preheat := x } u = curveCode a u := by
  rw [curveCode_switched hc]
  exact ⟨fun h => if_pos h, fun h => if_neg (Nat.not_le.mpr h),
    fun x => curveCode_switched (a := { a with preheat := x }) hc u⟩

/-- R117, R121, R122: the scaled level, and the output code as the curve of U. -/
theorem outputCode_spec (masters : Vector Nat 4) (e : EngineCircuit) :
    let scaled := scaledLevel masters e
    (e.safety = true ∨ e.attr.masterGroup = none → scaled = e.level) ∧
    (∀ m : Master, e.safety = false → e.attr.masterGroup = some m →
      scaled = (e.level * masters[m] + 500) / 1000 ∧ 1000 * scaled ≤ e.level * masters[m] + 500 ∧
        e.level * masters[m] < 1000 * scaled + 500) ∧
    (e.safety = false → outputCode masters e = curveCode e.attr (trimmedLevel e.attr false scaled)) ∧
    (e.safety = true → e.attr.curve ≠ .switched → outputCode masters e = curveCode e.attr (max e.level e.attr.preheat)) ∧
    (e.safety = true → e.attr.curve = .switched → outputCode masters e = curveCode e.attr e.level) := by
  refine ⟨scaledLevel_unmastered masters, fun m hs hm => ?_, fun hs => ?_, fun hs hc => ?_, fun hs hc => ?_⟩
  · rw [scaledLevel_mastered masters hs hm]
    omega
  · rw [outputCode, hs]
  · rw [outputCode, hs, scaledLevel_unmastered masters (.inl hs), trimmedLevel_safety hc]
  · rw [outputCode, hs, scaledLevel_unmastered masters (.inl hs), trimmedLevel_switched hc, if_pos rfl]

/-- Settles O39: the trims, the curves, and the code as the curve of the trimmed level. -/
theorem outputCodesFollowTrimsAndCurves : Obligations.OutputCodesFollowTrimsAndCurves :=
  ⟨⟨trimmedLevel_clear_spec, fun _ _ h => attrOf_preheat_le h, scaledLevel_zero⟩,
    fun a u hu => ⟨fun hc => curveCode_linear_spec hc hu, fun hc => curveCode_square_spec hc hu,
      fun hc => curveCode_switched_spec hc u, curveCode_le a hu⟩,
    outputCode_spec⟩

end Sys2Proof.Machine
end

section
/-! PROOFS. The reads of management: READ_STATUS, READ_ENTRY and READ_UNROUTED (O56). -/

namespace Sys2Proof.Machine

/-! ### Numbers (R194) -/

theorem circuitOf_circuitNumber (c : Circuit) : circuitOf (circuitNumber c) = some c := indexOf_val c

theorem sceneOf_sceneNumber (n : SceneNo) : sceneOf (sceneNumber n) = some n := indexOf_val n

theorem circuitOf_eq_none {n : Nat} (h : n = 0 ∨ 512 < n) : circuitOf n = none := by
  unfold circuitOf
  split
  · rfl
  · exact indexOf_of_le (by omega)

theorem sceneOf_eq_none {n : Nat} (h : n = 0 ∨ 96 < n) : sceneOf n = none := by
  unfold sceneOf
  split
  · rfl
  · exact indexOf_of_le (by omega)

theorem byteOf_toNat (b : Bool) : byteOf b.toNat = boolByte b := by cases b <;> rfl

/-! ### READ_STATUS (Table 12-8) -/

theorem LastResult.bytes_eq (r : LastResult) :
    r.bytes =
      match r with
      | .none => [0xFF#8, 0xFF#8, 0xFF#8, 0xFF#8, 0xFF#8]
      | .save pass => [0#8, boolByte (!pass), 0xFF#8, 0xFF#8, 0xFF#8]
      | .verify pass n crc => [1#8, boolByte (!pass), byteOf n.val] ++ wordBytes crc := by
  cases r <;> rfl

theorem LastResult.bytes_five (r : LastResult) : ∃ a b c d e, r.bytes = [a, b, c, d, e] := by
  cases r <;> exact ⟨_, _, _, _, _, rfl⟩

/-- Table 12-8: the bytes of the status at their offsets. -/
theorem State.statusBytes_spec (s : State) :
    s.statusBytes.length = 32 ∧
      s.statusBytes.take 7 =
        [byteOf s.part.code, boolByte s.line.lossDeclared, byteOf s.cues.mode.code, boolByte s.cues.pin,
          optByte (s.player.active.map sceneNumber), byteOf s.store.state.code, boolByte (!s.store.valid)] ∧
      (s.statusBytes.drop 7).take 5 = s.store.last.bytes ∧
      (s.statusBytes.drop 12).take 4 = wordBytes s.mgmt.flags ++ wordBytes s.mgmt.settings.masks ∧
      (s.statusBytes.drop 16).take 5 =
        [boolByte s.faultOutput, boolByte (!s.mgmt.restartSet.isEmpty), boolByte s.claims.egressAsserted,
          boolByte s.cues.cueA, boolByte s.cues.cueB] ∧
      s.statusBytes.drop 21 =
        be16 (1536 - s.claims.poolFree) ++
          [byteOf s.cues.pendings.length, byteOf s.feedback.confirmations.length, byteOf s.route.intake.length,
            byteOf s.mgmt.unrouted.length, byteOf s.line.roster.length] ++
          be16 (s.player.scenes.toList.map (·.entries.length)).sum ++ be16 (s.route.groups.toList.map (·.length)).sum := by
  obtain ⟨a, b, c, d, e, hlast⟩ := s.store.last.bytes_five
  unfold State.statusBytes
  rw [hlast]
  exact ⟨rfl, rfl, rfl, rfl, rfl, rfl⟩

/-! ### The entries of Table 12-7, by their fields -/

theorem windowBytes_fields (w : Window) :
    windowBytes w.fields =
      [boolByte w.enabled, byteOf w.stationFirst, byteOf w.stationLast, byteOf w.controlFirst, byteOf w.controlLast,
          byteOf w.trigger.code, byteOf w.action.code, byteOf w.target.kindCode] ++
        be16 w.target.argument ++ be16 w.rowPitch ++ [byteOf w.layer.code] ++ be16 w.level ++ [byteOf w.step] ++
        be16 w.fade ++ be16 w.hold ++
        [byteOf w.apply.code, byteOf w.feedback.code, byteOf w.action.argument, boolByte w.showSafe] := by
  rw [← byteOf_toNat, ← byteOf_toNat]
  rfl

theorem circuitBytes_fields (a : Attr) :
    circuitBytes a.fields =
      [byteOf a.curve.code] ++ be16 a.preheat ++ be16 a.topSet ++ be16 a.switchPoint ++
        [byteOf (masterGroupCode a.masterGroup)] ++ be16 a.defaultFade ++ [byteOf a.mergeRule.code, boolByte a.egress] ++
        be16 a.egressLevel ++ [byteOf a.lossAction.code] ++ be16 a.lossLevel := by
  rw [← byteOf_toNat]
  rfl

theorem loopFaultBytes_eq (r : Option LoopFault) :
    loopFaultBytes r =
      match r with
      | none => [0xFF#8, 0xFF#8, 0xFF#8, 0xFF#8, 0xFF#8]
      | some f => [byteOf f.kind.code, byteOf f.segment.val] ++
          (match f.circuit with | some c => be16 (circuitNumber c) | none => [0xFF#8, 0xFF#8]) ++ [byteOf f.count] := by
  cases r with
  | none => rfl
  | some f =>
    obtain ⟨kind, segment, circuit, count⟩ := f
    cases circuit <;> rfl

theorem loopFaultBytes_five (r : Option LoopFault) : ∃ a b c d e, loopFaultBytes r = [a, b, c, d, e] := by
  cases r with
  | none => exact ⟨_, _, _, _, _, rfl⟩
  | some f =>
    obtain ⟨kind, segment, circuit, count⟩ := f
    cases circuit <;> exact ⟨_, _, _, _, _, rfl⟩

theorem Owner.bytes_eq (o : Owner) :
    o.bytes =
      match o with
      | .station st k => [0#8, byteOf st, byteOf k]
      | .management => [1#8, 0xFF#8, 0xFF#8]
      | .scenePlayer => [2#8, 0xFF#8, 0xFF#8] := by
  cases o <;> rfl

theorem ClaimKind.remaining_bytes (k : ClaimKind) :
    optBe16 k.remaining = match k with | .timed left => be16 left | _ => [0xFF#8, 0xFF#8] := by
  cases k <;> rfl

theorem optByte_window (w : Option WindowIndex) :
    optByte (w.map fun i => i.val) = match w with | some i => byteOf i.val | none => 0xFF#8 := by
  cases w <;> rfl

theorem Claim.bytes_eq (c : Circuit) (cl : Claim) :
    cl.bytes c =
      be16 (circuitNumber c) ++ [byteOf cl.layer.code] ++
        (match cl.owner with
        | .station st k => [0#8, byteOf st, byteOf k]
        | .management => [1#8, 0xFF#8, 0xFF#8]
        | .scenePlayer => [2#8, 0xFF#8, 0xFF#8]) ++
        [(match cl.window with | some i => byteOf i.val | none => 0xFF#8), byteOf cl.kind.code] ++ be16 cl.level ++
        be16 cl.fade ++ (match cl.kind with | .timed left => be16 left | _ => [0xFF#8, 0xFF#8]) := by
  unfold Claim.bytes
  rw [Owner.bytes_eq, ClaimKind.remaining_bytes, optByte_window]

/-- Table 5-2, log entries 8 and 13: a pending record as its owner, window and cue, the fields of its work, and its feedback
kind. -/
theorem Pending.bytes_eq (p : Pending) :
    p.bytes =
      [0#8, byteOf p.station, byteOf p.control, byteOf p.window.val, byteOf (cueCode p.cue)] ++
        (match p.work with
        | .claim layer work target =>
          let ref := match target with | .circuit c => be16 (circuitNumber c) | .group g => be16 g.val
          match work with
          | .setLevel level fade => [0#8, byteOf layer.code] ++ be16 level ++ be16 fade ++ [0xFF#8, 0xFF#8] ++ [0xFF#8] ++ ref
          | .toggle level fade => [1#8, byteOf layer.code] ++ be16 level ++ be16 fade ++ [0xFF#8, 0xFF#8] ++ [0xFF#8] ++ ref
          | .clear =>
            [2#8, byteOf layer.code] ++ [0xFF#8, 0xFF#8] ++ [0xFF#8, 0xFF#8] ++ [0xFF#8, 0xFF#8] ++ [0xFF#8] ++ ref
          | .timed level fade hold => [4#8, byteOf layer.code] ++ be16 level ++ be16 fade ++ be16 hold ++ [0xFF#8] ++ ref
          | _ => (p.bytes.drop 5).take 11
        | .scene n =>
          [9#8, 0xFF#8] ++ [0xFF#8, 0xFF#8] ++ [0xFF#8, 0xFF#8] ++ [0xFF#8, 0xFF#8] ++ [byteOf (sceneNumber n)] ++
            [0xFF#8, 0xFF#8]
        | .sceneOff =>
          [10#8, 0xFF#8] ++ [0xFF#8, 0xFF#8] ++ [0xFF#8, 0xFF#8] ++ [0xFF#8, 0xFF#8] ++ [0xFF#8] ++ [0xFF#8, 0xFF#8]) ++
        [byteOf p.feedback.code] := by
  obtain ⟨station, control, window, cue, work, feedback⟩ := p
  cases work with
  | claim layer work target => cases target <;> cases work <;> rfl
  | scene n => rfl
  | sceneOff => rfl

/-! ### The status of a segment (R130, R148) -/

/-- R130: a circuit by its segment and its place in it. -/
def segmentCircuit (g : Segment) (i : Fin 128) : Circuit := ⟨g.val * 128 + i.val, by omega⟩

theorem segmentOf_segmentCircuit (g : Segment) (i : Fin 128) : segmentOf (segmentCircuit g i) = g := by
  apply Fin.ext
  show (g.val * 128 + i.val) / 128 = g.val
  omega

theorem segmentCircuit_segmentOf (c : Circuit) : segmentCircuit (segmentOf c) ⟨c.val % 128, by omega⟩ = c :=
  Fin.ext (Nat.div_add_mod' c.val 128)

/-- R130: the circuits of a segment, in ascending order. -/
theorem filter_segment (g : Segment) :
    (allCircuits.filter fun c => segmentOf c == g) = (List.finRange 128).map (segmentCircuit g) := by
  refine (allCircuits_sorted.filter _).eq_of_mem_iff (List.pairwise_map.mpr ?_) fun c => ?_
  · exact (List.pairwise_lt_finRange 128).imp fun h => Nat.add_lt_add_left h _
  · rw [List.mem_filter, beq_iff_eq, List.mem_map]
    constructor
    · rintro ⟨-, rfl⟩
      exact ⟨_, List.mem_finRange _, segmentCircuit_segmentOf c⟩
    · rintro ⟨i, -, rfl⟩
      exact ⟨mem_allCircuits _, segmentOf_segmentCircuit g i⟩

/-- R145, R148: the bytes of a loop read at their offsets. -/
theorem State.loopRead_spec (s : State) (g : Segment) :
    (s.loopRead g).length = 138 ∧ (s.loopRead g).take 5 = loopFaultBytes s.loop.fault ∧
      ((s.loopRead g).drop 5).take 5 =
        [byteOf s.loop.failures, byteOf s.loop.openRun, byteOf s.loop.outstanding.length, byteOf s.loop.waiting.length,
          s.loop.nextSeq] ∧
      ∀ c : Circuit, segmentOf c = g → (s.loopRead g)[10 + c.val % 128]? = some (byteOf (s.loop.status[c]).code) := by
  obtain ⟨a, b, x, d, e, hfault⟩ := loopFaultBytes_five s.loop.fault
  unfold State.loopRead
  rw [hfault, filter_segment]
  refine ⟨by simp, rfl, rfl, fun c hc => ?_⟩
  have hplace : (List.finRange 128)[c.val % 128]? = some ⟨c.val % 128, by omega⟩ := by
    rw [List.getElem?_eq_getElem (by rw [List.length_finRange]; omega), List.getElem_finRange]
    rfl
  refine (List.getElem?_append_right (Nat.le_add_right 10 _)).trans ?_
  show (List.map _ _)[10 + c.val % 128 - 10]? = _
  rw [Nat.add_sub_cancel_left, List.getElem?_map, List.getElem?_map, hplace, ← hc]
  exact congrArg (fun k : Circuit => some (byteOf (s.loop.status[k]).code)) (segmentCircuit_segmentOf c)

/-! ### The entries of Table 11-3 -/

theorem State.entryRead_settings (s : State) (arg position : Nat) :
    s.entryRead 0 arg position =
      some ([byteOf s.mgmt.settings.lineLoss] ++ be16 s.mgmt.settings.modeFade ++ be16 s.mgmt.settings.recoveryFade ++
        [byteOf (powerOnSceneNumber s.mgmt.settings.powerOnScene), boolByte s.mgmt.settings.learn,
          boolByte s.mgmt.settings.houseToCue] ++ wordBytes s.mgmt.settings.masks) := by
  rw [← byteOf_toNat, ← byteOf_toNat]
  rfl

theorem State.entryRead_roster (s : State) {arg : Nat} (position : Nat) (h : 1 ≤ arg ∧ arg ≤ 249) :
    s.entryRead 1 arg position = some (s.rosterRead arg) := if_pos h

theorem State.entryRead_window (s : State) (i : WindowIndex) (position : Nat) :
    s.entryRead 2 i.val position = some (windowBytes (s.window i).fields) := by
  unfold State.entryRead
  rw [indexOf_val]
  rfl

theorem State.entryRead_group (s : State) (g : GroupNo) (position : Nat) :
    s.entryRead 3 g.val position = some (groupBytes s.route.groups[g]) := by
  unfold State.entryRead
  rw [indexOf_val]
  rfl

theorem State.entryRead_scene (s : State) (n : SceneNo) {position : Nat} (h : position ≤ 511) :
    s.entryRead 4 (sceneNumber n) position = some (s.player.scenes[n].read position) := by
  unfold State.entryRead
  rw [sceneOf_sceneNumber]
  exact if_pos h

theorem State.entryRead_circuit (s : State) (c : Circuit) (position : Nat) :
    s.entryRead 5 (circuitNumber c) position = some (s.circuitRead c) := by
  unfold State.entryRead
  rw [circuitOf_circuitNumber]
  rfl

theorem State.entryRead_masters (s : State) (arg position : Nat) :
    s.entryRead 6 arg position =
      some (be16 s.engine.masters[0] ++ be16 s.engine.masters[1] ++ be16 s.engine.masters[2] ++ be16 s.engine.masters[3]) := by
  obtain ⟨a, b, c, d, hlist⟩ := List.length_eq_four.mp s.engine.masters.length_toList
  have hat : ∀ (i : Nat) (hi : i < 4), s.engine.masters[i] = [a, b, c, d][i] := fun i hi => by
    simp only [← hlist, Vector.getElem_toList]
  show some (s.engine.masters.toList.flatMap be16) = _
  rw [hlist, hat 0, hat 1, hat 2, hat 3]
  rfl

theorem State.entryRead_loop (s : State) (g : Segment) (position : Nat) :
    s.entryRead 7 g.val position = some (s.loopRead g) := by
  unfold State.entryRead
  rw [indexOf_val]
  rfl

theorem State.entryRead_claims (s : State) (c : Circuit) (position : Nat) :
    s.entryRead 8 (circuitNumber c) position = some (s.claimsRead c) := by
  unfold State.entryRead
  rw [circuitOf_circuitNumber]
  rfl

theorem State.entryRead_pendings (s : State) {arg : Nat} (position : Nat) (h : arg ≤ 31) :
    s.entryRead 9 arg position = some (s.pendingRead arg) := if_pos h

/-- R186: a kind that Table 11-3 does not name, or an argument out of its range. -/
theorem State.entryRead_bad (s : State) {kind arg position : Nat}
    (h : 10 ≤ kind ∨ (kind = 1 ∧ (arg = 0 ∨ 249 < arg)) ∨ (kind = 2 ∧ 63 < arg) ∨ (kind = 3 ∧ 63 < arg) ∨
      (kind = 4 ∧ (arg = 0 ∨ 96 < arg ∨ 511 < position)) ∨ (kind = 5 ∧ (arg = 0 ∨ 512 < arg)) ∨
      (kind = 7 ∧ 3 < arg) ∨ (kind = 8 ∧ (arg = 0 ∨ 512 < arg)) ∨ (kind = 9 ∧ 31 < arg)) :
    s.entryRead kind arg position = none := by
  rcases h with h | ⟨rfl, h⟩ | ⟨rfl, h⟩ | ⟨rfl, h⟩ | ⟨rfl, h⟩ | ⟨rfl, h⟩ | ⟨rfl, h⟩ | ⟨rfl, h⟩ | ⟨rfl, h⟩
  · obtain ⟨k, rfl⟩ := Nat.exists_eq_add_of_le' h
    rfl
  · exact if_neg fun hin : 1 ≤ arg ∧ arg ≤ 249 => by omega
  · exact congrArg (Option.map _) (indexOf_of_le h)
  · exact congrArg (Option.map _) (indexOf_of_le h)
  · by_cases hp : position ≤ 511
    · exact (if_pos hp).trans (congrArg (Option.map _) (sceneOf_eq_none (by omega)))
    · exact if_neg hp
  · exact congrArg (Option.map _) (circuitOf_eq_none h)
  · exact congrArg (Option.map _) (indexOf_of_le h)
  · exact congrArg (Option.map _) (circuitOf_eq_none h)
  · exact if_neg (Nat.not_le.mpr h)

/-! ### The requests -/

/-- R185: READ_STATUS answers the status, and changes nothing else. -/
theorem readStatus_answered {s : State} {sender : Nat} (tag : Nat) (h : s.takes sender = true) :
    State.Answered sender tag .done s.statusBytes s s ((s.beginRequest sender tag).reqReadStatus sender) :=
  State.answered_of_taken h rfl rfl rfl

/-- R186: READ_ENTRY answers the entry that it reads, and changes nothing else. -/
theorem readEntry_answered {s : State} {sender kind arg position : Nat} {p : List Byte} (tag : Nat) (h : s.takes sender = true)
    (hread : s.entryRead kind arg position = some p) :
    State.Answered sender tag .done p s s ((s.beginRequest sender tag).reqReadEntry sender kind arg position) := by
  have hbegun : (s.beginRequest sender tag).entryRead kind arg position = some p := hread
  unfold State.reqReadEntry
  rw [hbegun]
  exact State.answered_of_taken h rfl rfl rfl

/-- R186: READ_ENTRY of no entry. -/
theorem readEntry_refused {s : State} {sender kind arg position : Nat} (tag : Nat) (h : s.takes sender = true)
    (hread : s.entryRead kind arg position = none) :
    State.Answered sender tag .outOfRange [] s s ((s.beginRequest sender tag).reqReadEntry sender kind arg position) := by
  have hbegun : (s.beginRequest sender tag).entryRead kind arg position = none := hread
  unfold State.reqReadEntry
  rw [hbegun]
  exact State.refused tag _ h

/-- R198: READ_UNROUTED of an empty queue, and of one with a head. -/
theorem readUnrouted_taken (s : State) (sender tag : Nat) (h : s.takes sender = true) :
    ∃ t, exec (.readUnrouted sender tag) s = .next t ∧
      (s.mgmt.unrouted = [] → State.Answered sender tag .done [0xFF#8, 0xFF#8, 0xFF#8] s s t) ∧
      ∀ u rest, s.mgmt.unrouted = u :: rest →
        State.Answered sender tag .done [byteOf u.station, byteOf u.control, byteOf u.kind.code] s
          { s with mgmt := { s.mgmt with unrouted := rest } } t := by
  refine ⟨_, congrArg Host.Outcome.next (State.takeRequest_of_taken h), fun hempty => ?_, fun u rest hhead => ?_⟩
  · unfold State.reqReadUnrouted
    rw [show (s.beginRequest sender tag).mgmt.unrouted = [] from hempty]
    exact State.answered_of_taken h rfl rfl rfl
  · unfold State.reqReadUnrouted
    rw [show (s.beginRequest sender tag).mgmt.unrouted = u :: rest from hhead]
    exact State.answered_of_taken h rfl rfl rfl

/-- Settles O56: each read answers the bytes of what it reads; the entries are those of `State.entryRead`, field by field. -/
theorem readsAnswerAndChangeNothing : Obligations.ReadsAnswerAndChangeNothing := by
  intro s sender tag h
  refine ⟨?_, fun kind arg position => ⟨_, congrArg Host.Outcome.next (State.takeRequest_of_taken h), ?_⟩,
    readUnrouted_taken s sender tag h⟩
  · obtain ⟨hlength, hhead, hlast, hwords, hbits, hcounts⟩ := s.statusBytes_spec
    exact ⟨_, _, congrArg Host.Outcome.next (State.takeRequest_of_taken h), readStatus_answered tag h, hlength, hhead,
      hlast.trans (LastResult.bytes_eq _), hwords, hbits, hcounts⟩
  · have answer : ∀ {p : List Byte}, s.entryRead kind arg position = some p →
        State.Answered sender tag .done p s s ((s.beginRequest sender tag).reqReadEntry sender kind arg position) :=
      readEntry_answered tag h
    refine ⟨fun hbad => readEntry_refused tag h (s.entryRead_bad hbad), ?settings, ?roster, ?window, ?group, ?scene, ?circuit,
      ?masters, ?loop, ?claims, ?pendings⟩
    case settings =>
      rintro rfl
      exact answer (s.entryRead_settings arg position)
    case roster =>
      rintro rfl hlow hhigh
      have hread := s.entryRead_roster position ⟨hlow, hhigh⟩
      unfold State.rosterRead at hread
      refine ⟨fun e he => ?_, fun hnone => ?_⟩
      · rw [he] at hread
        exact answer hread
      · rw [hnone] at hread
        exact answer hread
    case window =>
      rintro rfl i rfl
      exact answer ((s.entryRead_window i position).trans (congrArg some (windowBytes_fields _)))
    case group =>
      rintro rfl g rfl
      exact answer (s.entryRead_group g position)
    case scene =>
      rintro rfl hposition n rfl
      exact answer (s.entryRead_scene n hposition)
    case circuit =>
      rintro rfl c rfl
      have hread := s.entryRead_circuit c position
      unfold State.circuitRead at hread
      rw [circuitBytes_fields] at hread
      exact answer hread
    case masters =>
      rintro rfl
      exact answer (s.entryRead_masters arg position)
    case loop =>
      rintro rfl g rfl
      obtain ⟨hlength, hfault, hcounts, hstatus⟩ := s.loopRead_spec g
      exact ⟨_, answer (s.entryRead_loop g position), hlength, hfault.trans (loopFaultBytes_eq _), hcounts, hstatus⟩
    case claims =>
      rintro rfl c rfl
      have hread := s.entryRead_claims c position
      unfold State.claimsRead at hread
      rw [show Claim.bytes c = _ from funext (Claim.bytes_eq c)] at hread
      exact answer hread
    case pendings =>
      rintro rfl harg
      have hread := s.entryRead_pendings position harg
      unfold State.pendingRead at hread
      rw [show Pending.bytes = _ from funext Pending.bytes_eq] at hread
      exact answer hread

end Sys2Proof.Machine
end

section
/-! SUPPORT. The commands that leave the Circuit Loop Controller as it was. -/

namespace Sys2Proof.Machine

/-! ### Outcomes, replies and work on claims -/

@[simp] theorem State.outcome_loop (s : State) (st k : Nat) (ack : Bool) : (s.outcome st k ack).loop = s.loop := by
  rw [State.outcome_feedback_only]

@[simp] theorem State.settle_loop (s : State) (st k : Nat) (f : FeedbackKind) (refused : Bool) (l : List Circuit) :
    (s.settle st k f refused l).loop = s.loop := by
  rw [State.settle_feedback_only]

@[simp] theorem State.accept_loop (s : State) (st k : Nat) (f : FeedbackKind) (l : List Circuit) :
    (s.accept st k f l).loop = s.loop := s.settle_loop st k f false l

@[simp] theorem State.nackEach_loop (l : List Pending) (s : State) : (State.nackEach l s).loop = s.loop := by
  rw [State.nackEach_feedback_only]

@[simp] theorem State.settleRecords_loop (pub : List Circuit) (l : List Applied) (s : State) :
    (State.settleRecords pub l s).loop = s.loop := by
  rw [State.settleRecords_feedback_only]

@[simp] theorem State.complete_loop (s : State) (n : Nat) (r : Result) (p : List Byte) : (s.complete n r p).loop = s.loop := by
  rw [State.complete_eq]

@[simp] theorem State.replyFires_loop (l : List Fire) (s : State) : (State.replyFires l s).loop = s.loop := by
  induction l generalizing s with
  | nil => rfl
  | cons f rest ih => exact (ih _).trans (s.complete_loop _ _ _)

@[simp] theorem State.reportIf_loop (s : State) (b : Bool) (f : Flag) : (s.reportIf b f).loop = s.loop := by
  cases b <;> rfl

theorem SameButClaims.loop {s t : State} (h : SameButClaims s t) : t.loop = s.loop := by
  rw [h.1]

@[simp] theorem State.placeOne_loop (s : State) (c : Circuit) (cl : Claim) : (s.placeOne c cl).loop = s.loop :=
  (s.placeOne_same c cl).loop

@[simp] theorem State.applyWork_loop (st k : Nat) (i : WindowIndex) (layer : Layer) (w : ClaimWork) (l : List Circuit) (s : State) :
    (s.applyWork st k i layer w l).2.loop = s.loop :=
  (s.applyWork_same st k i layer w l).loop

@[simp] theorem State.recallPasses_loop (r : SceneRecord) (s : State) : (s.recallPasses r).2.loop = s.loop :=
  (s.recallPasses_same r).loop

@[simp] theorem State.applyRecords_loop (l : List Pending) (s : State) : (State.applyRecords l s).2.loop = s.loop := by
  induction l generalizing s with
  | nil => rfl
  | cons p rest ih =>
    have one : (s.applyRecord p).2.loop = s.loop := by
      unfold State.applyRecord
      repeat' split
      all_goals simp
    exact (ih _).trans one

@[simp] theorem State.changeMode_loop (s : State) (m : Mode) : (s.changeMode m).loop = s.loop := by
  rw [State.changeMode_eq]

/-! ### Grants and completions -/

@[simp] theorem State.claimActionGrant_loop (s : State) : s.claimActionGrant.loop = s.loop := by
  unfold State.claimActionGrant State.grantClaimAction
  repeat' split
  all_goals simp

theorem State.absenceGrant_loop (s : State) : s.absenceGrant.loop = s.loop := by
  unfold State.absenceGrant
  split <;> rfl

theorem State.stationRemovalGrant_loop (s : State) : s.stationRemovalGrant.loop = s.loop := by
  unfold State.stationRemovalGrant
  split <;> rfl

theorem State.claimTimerExpiry_loop (s : State) : s.claimTimerExpiry.loop = s.loop := by
  unfold State.claimTimerExpiry
  repeat' split
  all_goals rfl

theorem State.expiryGrant_loop (s : State) : s.expiryGrant.loop = s.loop := by
  unfold State.expiryGrant
  split <;> rfl

theorem State.setLevelGrant_loop (s : State) : s.setLevelGrant.loop = s.loop := by
  unfold State.setLevelGrant State.grantSetLevel
  repeat' split
  all_goals simp

theorem State.releaseLayerGrant_loop (s : State) : s.releaseLayerGrant.loop = s.loop := by
  unfold State.releaseLayerGrant State.grantReleaseLayer
  split <;> simp

theorem State.mergeRuleGrant_loop (s : State) : s.mergeRuleGrant.loop = s.loop := by
  unfold State.mergeRuleGrant State.grantMergeRule
  split <;> simp

theorem State.recallGrant_loop (s : State) : s.recallGrant.loop = s.loop := by
  unfold State.recallGrant
  split
  · exact State.recallPasses_loop _ _
  · rfl

theorem State.recallCompletion_loop (s : State) : s.recallCompletion.loop = s.loop := by
  unfold State.recallCompletion State.completeRecall
  repeat' split
  all_goals simp

theorem State.releaseGrant_loop (s : State) : s.releaseGrant.loop = s.loop := by
  unfold State.releaseGrant State.grantRelease
  split <;> simp

theorem State.captureGrant_loop (s : State) : s.captureGrant.loop = s.loop := by
  unfold State.captureGrant State.grantCapture
  repeat' split
  all_goals simp

theorem State.cueGrant_loop (s : State) : s.cueGrant.loop = s.loop := by
  unfold State.cueGrant
  split
  · exact State.applyRecords_loop _ _
  · rfl

theorem State.cueCompletion_loop (s : State) : s.cueCompletion.loop = s.loop := by
  unfold State.cueCompletion State.completeCue
  split <;> simp

theorem State.modeChangeGrant_loop (s : State) : s.modeChangeGrant.loop = s.loop := by
  unfold State.modeChangeGrant State.grantModeAction State.grantModeSet
  repeat' split
  all_goals simp

/-! ### Safety events, fades and the store -/

theorem State.egressAssertion_loop (s : State) : s.egressAssertion.loop = s.loop := by
  unfold State.egressAssertion
  split <;> rfl

theorem State.egressRelease_loop (s : State) : s.egressRelease.loop = s.loop := by
  unfold State.egressRelease
  split <;> rfl

theorem State.lineLossTimerExpiry_loop (s : State) : s.lineLossTimerExpiry.loop = s.loop := by
  unfold State.lineLossTimerExpiry
  split <;> rfl

theorem State.lineHeard_loop (s : State) : s.lineHeard.loop = s.loop := by
  rw [State.lineHeard_frame]

@[simp] theorem State.startLossTimer_loop (s : State) : s.startLossTimer.loop = s.loop := by
  rw [State.startLossTimer_eq]

theorem State.fadeStep_loop (s : State) : s.fadeStep.loop = s.loop := by
  unfold State.fadeStep
  split <;> rfl

theorem State.saveCompletion_loop (readBack : List (List Byte)) (s : State) : (s.saveCompletion readBack).loop = s.loop := by
  unfold State.saveCompletion
  split <;> simp

theorem State.verifyCompletion_loop (s : State) : s.verifyCompletion.loop = s.loop := by
  unfold State.verifyCompletion
  split <;> simp

/-! ### Cues, windows and event records -/

@[simp] theorem State.cueEvent_loop (x : Cue) (fire : Option Nat) (s : State) : (s.cueEvent x fire).loop = s.loop := by
  unfold State.cueEvent
  dsimp only
  repeat' split
  all_goals simp

theorem State.cueInput_loop (x : Cue) (asserted : Bool) (s : State) : (s.cueInput x asserted).loop = s.loop := by
  have hcontact : ∀ b, (s.setCueContact x b).loop = s.loop := fun b => by cases x <;> rfl
  unfold State.cueInput
  repeat' split
  all_goals simp [hcontact]

@[simp] theorem State.dropPendings_loop (gone : Pending → Bool) (s : State) : (s.dropPendings gone).loop = s.loop :=
  (State.nackEach_loop _ _).trans (s.setPendings_loop _)

@[simp] theorem State.enterPending_loop (p : Pending) (s : State) : (s.enterPending p).loop = s.loop := by
  unfold State.enterPending
  repeat' split
  all_goals simp

@[simp] theorem State.handScene_loop (r : Request) (s : State) : (s.handScene r).loop = s.loop := by
  unfold State.handScene
  split <;> simp

@[simp] theorem State.offerUnrouted_loop (s : State) (u : Unrouted) : (s.offerUnrouted u).loop = s.loop := by
  unfold State.offerUnrouted
  repeat' split
  all_goals rfl

@[simp] theorem State.act_loop (i : WindowIndex) (w : Window) (r : EventRecord) (s : State) : (s.act i w r).loop = s.loop := by
  unfold State.act State.handClaim State.handSceneAction
  dsimp only
  repeat' split
  all_goals simp

@[simp] theorem State.takeEventRecord_loop (s : State) : s.takeEventRecord.loop = s.loop := by
  unfold State.takeEventRecord State.resolve State.unrouted
  dsimp only
  repeat' split
  all_goals simp

theorem State.offerEvent_loop (r : EventRecord) (s : State) : (s.offerEvent r).loop = s.loop := by
  unfold State.offerEvent
  repeat' split
  all_goals simp

/-! ### Requests of management -/

@[simp] theorem State.storeEntry_loop (sender station controls : Nat) (p : Privilege) (s : State) :
    (s.storeEntry sender station controls p).loop = s.loop := by
  unfold State.storeEntry State.replaceEntry State.insertEntry
  dsimp only
  repeat' split
  all_goals simp

@[simp] theorem State.removeEntry_loop (n : Nat) (e : RosterEntry) (s : State) : (s.removeEntry n e).loop = s.loop := by
  rw [State.removeEntry_eq, State.rosterEmptied_frame, State.strikeEntry_frame]

@[simp] theorem State.rewriteEgress_loop (c : Circuit) (old new : Attr) (s : State) :
    (s.rewriteEgress c old new).loop = s.loop := by
  unfold State.rewriteEgress
  repeat' split
  all_goals rfl

/-- No request of management reaches the Circuit Loop Controller. -/
theorem State.serve_loop (c : Instr) (s : State) : (s.serve c).loop = s.loop := by
  cases c with
  | readStatus | readEntry | readUnrouted | clearFlags =>
    simp only [State.serve, State.reqReadStatus, State.reqReadEntry, State.reqReadUnrouted, State.reqClearFlags]
    repeat' split
    all_goals simp
  | setMask | writeSettings | restart | save | verify =>
    simp only [State.serve, State.reqSetMask, State.reqWriteSettings, State.storeSettings, State.reqRestart, State.reqSave,
      State.reqVerify]
    repeat' split
    all_goals simp
  | enrol | delete | writeWindow | setWindow | addGroupMember | removeGroupMember =>
    simp only [State.serve, State.reqEnrol, State.reqDelete, State.reqWriteWindow, State.reqSetWindow, State.enableWindow,
      State.reqAddGroupMember, State.addMember, State.reqRemoveGroupMember]
    repeat' split
    all_goals simp
  | setLevel | releaseLayer | setSceneEntry | clearSceneEntry | setSceneFade | captureScene =>
    simp only [State.serve, State.reqSetLevel, State.reqReleaseLayer, State.reqSetSceneEntry, State.storeSceneEntry,
      State.reqClearSceneEntry, State.reqSetSceneFade, State.reqCaptureScene]
    repeat' split
    all_goals simp
  | setMode | fireCue | clearPending | setMaster | writeCircuit =>
    simp only [State.serve, State.reqSetMode, State.reqFireCue, State.reqClearPending, State.reqSetMaster,
      State.reqWriteCircuit, State.storeCircuit]
    repeat' split
    all_goals simp
  | _ => rfl

theorem State.takeRequest_loop (sender tag : Nat) {work : State → State} (h : ∀ u, (work u).loop = u.loop) (s : State) :
    (s.takeRequest sender tag work).loop = s.loop := by
  unfold State.takeRequest
  split
  · exact h _
  · rfl

theorem State.handRecord_loop (sender : Nat) (r : Record) (s : State) : (s.handRecord sender r).loop = s.loop := by
  refine State.takeRequest_loop sender r.tag (fun u => ?_) s
  unfold State.checkRecord
  repeat' split
  all_goals simp [State.serve_loop]

/-! ### Visits and answers -/

@[simp] theorem State.visitFrom_loop (n : Nat) (s : State) : (s.visitFrom n).loop = s.loop := by
  rw [State.visitFrom_frame]

@[simp] theorem State.nextVisit_loop (s : State) : s.nextVisit.loop = s.loop := by
  have cycle : s.endCycle.loop = s.loop := State.visitFrom_loop 0 _
  unfold State.nextVisit
  repeat' split
  · exact State.visitFrom_loop _ s
  · rfl
  · exact cycle
  · exact cycle

theorem State.judgeMiss_loop (n : Nat) (s : State) : (s.judgeMiss n).loop = s.loop := by
  unfold State.judgeMiss State.miss
  dsimp only
  repeat' split
  all_goals simp

theorem State.takeContents_loop (station controls : Nat) (takes : List Nat) (a : Answer) (s : State) :
    (s.takeContents station controls takes a).loop = s.loop := by
  cases a with
  | management r => exact State.handRecord_loop station r s
  | events l =>
    exact State.takeEvents_keeps (P := fun u => u.loop = s.loop) (fun u h => u.claimActionGrant_loop.trans h)
      (fun u h => u.takeEventRecord_loop.trans h) (fun u r h => (u.offerEvent_loop r).trans h) (fun _ h => h) l takes s rfl

theorem State.judgeValid_loop (n : Nat) (takes : List Nat) (a : Answer) (s : State) :
    (s.judgeValid n takes a).loop = s.loop := by
  unfold State.judgeValid
  split
  · exact (State.takeContents_loop _ _ _ _ _).trans (State.lineHeard_loop _)
  · split
    · unfold State.serviceAnswer
      split
      · rfl
      · exact State.handRecord_loop _ _ s
    · unfold State.discovered
      split <;> simp

theorem State.answerReceived_loop (frame : Arrival) (s : State) : (s.answerReceived frame).loop = s.loop := by
  unfold State.answerReceived
  split
  · refine (State.nextVisit_loop _).trans ?_
    unfold State.judgeFrame
    split
    · exact State.judgeValid_loop _ _ _ s
    · exact State.judgeMiss_loop _ _
  · rfl
  · rfl

theorem State.answerTimeout_loop (s : State) : s.answerTimeout.loop = s.loop := by
  unfold State.answerTimeout
  split
  · exact (State.nextVisit_loop _).trans (State.judgeMiss_loop _ s)
  · rfl
  · rfl

end Sys2Proof.Machine
end

section
/-! SUPPORT. The outcome of a loop frame as one equation over the state: the counts, the fault record and the flags, and the report
to the Feedback Tracker. -/

namespace Sys2Proof.Machine

/-! ### Reports of LEVEL frames (R147) -/

/-- R154: what an outcome makes of the feedback is decided by the roster and the feedback. -/
theorem State.outcome_feedback_congr {s t : State} (hline : t.line = s.line) (hfeedback : t.feedback = s.feedback)
    (st k : Nat) (ack : Bool) : (t.outcome st k ack).feedback = (s.outcome st k ack).feedback := by
  have hhears : t.hears st k = s.hears st k := by
    unfold State.hears State.entryOf
    rw [hline]
  unfold State.outcome
  rw [hhears]
  split
  · dsimp only
    rw [hfeedback]
  · exact hfeedback

theorem State.settleConfirmations_feedback_congr (l : List Confirmation) {s t : State} (hline : t.line = s.line)
    (hfeedback : t.feedback = s.feedback) :
    (State.settleConfirmations l t).feedback = (State.settleConfirmations l s).feedback := by
  induction l generalizing s t with
  | nil => exact hfeedback
  | cons r rest ih =>
    refine ih ?_ (State.outcome_feedback_congr hline hfeedback _ _ _)
    rw [t.outcome_feedback_only, s.outcome_feedback_only]
    exact hline

/-- R156, R157: what a report makes of the feedback is decided by the roster and the feedback. -/
theorem State.levelReport_feedback_congr {s t : State} (hline : t.line = s.line) (hfeedback : t.feedback = s.feedback)
    (g : Segment) (intact : Bool) : (t.levelReport g intact).feedback = (s.levelReport g intact).feedback := by
  unfold State.levelReport
  rw [hfeedback]
  exact State.settleConfirmations_feedback_congr _ hline rfl

/-! ### Outcomes (R144, R145) -/

/-- R144, R145: the flags that an outcome reports. -/
def LoopBlock.verdictFlags (l : LoopBlock) : LoopVerdict → Word
  | .intact => 0
  | .opened => if 3 ≤ l.openRun + 1 then 0x0001#16 else 0
  | .corrupt _ => 0x0002#16
  | .parity _ => 0x0004#16

/-- R144, R145: the counts and the fault record after an outcome. -/
def LoopBlock.judged (g : Segment) (l : LoopBlock) : LoopVerdict → LoopBlock
  | .intact => { l with failures := 0, openRun := 0 }
  | .opened => l.failed .opened g none (min 3 (l.openRun + 1))
  | .corrupt slot => l.failed .corrupt g (slot.bind (circuitAt g)) 0
  | .parity slot => l.failed .parity g (circuitAt g slot) 0

/-- R147: the feedback after an outcome: that of a LEVEL frame is reported. -/
def State.told (o : Outstanding) (v : LoopVerdict) (s : State) : FeedbackBlock :=
  match o.kind with
  | .level => (s.levelReport o.segment (v == .intact)).feedback
  | .status => s.feedback

theorem State.countVerdict_eq (s : State) (g : Segment) (v : LoopVerdict) :
    s.countVerdict g v =
      { s with
        loop := s.loop.judged g v
        mgmt := { s.mgmt with flags := s.mgmt.flags ||| s.loop.verdictFlags v } } := by
  have none_set : s.mgmt.flags ||| (0 : Word) = s.mgmt.flags := BitVec.or_zero
  cases v with
  | corrupt slot => rfl
  | parity slot => rfl
  | intact =>
    show _ = { s with loop := _, mgmt := { s.mgmt with flags := s.mgmt.flags ||| (0 : Word) } }
    rw [none_set]
    rfl
  | opened =>
    unfold State.countVerdict State.reportIf LoopBlock.verdictFlags
    by_cases h : 3 ≤ s.loop.openRun + 1
    · simp only [h, decide_true, if_true]
      rfl
    · simp only [h, decide_false, if_false, none_set]
      rfl

theorem State.frameOutcome_eq (s : State) (o : Outstanding) (v : LoopVerdict) :
    s.frameOutcome o v =
      { s with
        loop := s.loop.judged o.segment v
        mgmt := { s.mgmt with flags := s.mgmt.flags ||| s.loop.verdictFlags v }
        feedback := s.told o v } := by
  unfold State.frameOutcome State.told
  cases o.kind with
  | level =>
    dsimp only
    rw [State.levelReport_feedback_only,
      State.levelReport_feedback_congr (s := s) (by rw [State.countVerdict_eq]) (by rw [State.countVerdict_eq]),
      State.countVerdict_eq]
  | status => exact s.countVerdict_eq _ _

/-- An outcome leaves the frames of the loop, its rotations and the status table. -/
theorem LoopBlock.judged_frame (l : LoopBlock) (g : Segment) (v : LoopVerdict) :
    l.judged g v =
      { l with
        failures := (l.judged g v).failures
        openRun := (l.judged g v).openRun
        fault := (l.judged g v).fault } := by
  cases v <;> rfl

theorem State.reportIf_frame (s : State) (b : Bool) (f : Flag) :
    s.reportIf b f = { s with mgmt := { s.mgmt with flags := (s.reportIf b f).mgmt.flags } } := by
  cases b <;> rfl

/-- R146: a good STATUS return touches the status table and the flags alone. -/
theorem State.writeStatus_frame (s : State) (g : Segment) (values : List Word) :
    s.writeStatus g values =
      { s with
        loop := { s.loop with status := (s.writeStatus g values).loop.status }
        mgmt := { s.mgmt with flags := (s.writeStatus g values).mgmt.flags } } := by
  unfold State.writeStatus
  dsimp only
  rw [State.reportIf_frame, State.reportIf_frame, State.reportIf_frame]
  rfl

/-- R146: the status of a circuit after a good STATUS return. -/
theorem State.writeStatus_status (s : State) (g : Segment) (values : List Word) (c : Circuit) :
    (s.writeStatus g values).loop.status[c] = if segmentOf c = g then slotStatus values c else s.loop.status[c] := by
  unfold State.writeStatus
  dsimp only
  rw [State.reportIf_loop, State.reportIf_loop, State.reportIf_loop]
  exact getElem_mapTable _ _ c

end Sys2Proof.Machine
end

section
/-! PROOFS. Every step keeps the law of the loop (O10). -/

namespace Sys2Proof.Machine

/-! ### The law, and the changes of the loop that keep it -/

/-- R134: of two frames that wait, one is a LEVEL frame, and the other a STATUS frame or the LEVEL frame of another segment. -/
def DueFrame.apart (a b : DueFrame) : Prop := a.kind ≠ b.kind ∨ (a.kind = .level ∧ a.segment ≠ b.segment)

/-- R131: no frame waits, is sent or is outstanding. -/
def LoopBlock.Silent (l : LoopBlock) : Prop := l.waiting = [] ∧ l.transmitter = none ∧ l.outstanding = []

/-- R134, R135: the limits of the frames that wait and that are outstanding. -/
def LoopBlock.Bounded (l : LoopBlock) : Prop :=
  l.outstanding.length ≤ Config.outstandingMax ∧ l.waiting.Pairwise DueFrame.apart

theorem State.loopLaw_iff (s : State) : s.LoopLaw ↔ (s.part ≠ .running → s.loop.Silent) ∧ s.loop.Bounded := Iff.rfl

theorem LoopBlock.Silent.bounded {l : LoopBlock} (h : l.Silent) : l.Bounded := by
  obtain ⟨hwaiting, -, houtstanding⟩ := h
  unfold LoopBlock.Bounded
  rw [hwaiting, houtstanding]
  exact ⟨Nat.zero_le _, .nil⟩

/-- R131: a silent loop meets the law in every part state. -/
theorem State.LoopLaw.of_silent {s : State} (h : s.loop.Silent) : s.LoopLaw := ⟨fun _ => h, h.bounded⟩

theorem State.LoopLaw.of_running {s : State} (hp : s.part = .running) (h : s.loop.Bounded) : s.LoopLaw :=
  ⟨fun hno => absurd hp hno, h⟩

theorem State.LoopLaw.of_loop {s t : State} (h : s.LoopLaw) (hp : t.part = s.part) (hl : t.loop = s.loop) : t.LoopLaw := by
  rw [State.loopLaw_iff, hp, hl]
  exact h

theorem State.LoopLaw.bounded {s : State} (h : s.LoopLaw) : s.loop.Bounded := h.2

theorem State.enterLoading_silent (s : State) : s.enterLoading.loop.Silent := ⟨rfl, rfl, rfl⟩

theorem DueFrame.apart_append {l : List DueFrame} {d : DueFrame} (h : l.Pairwise DueFrame.apart) (hd : ∀ x ∈ l, x.apart d) :
    (l ++ [d]).Pairwise DueFrame.apart :=
  List.pairwise_append.mpr ⟨h, List.pairwise_singleton _ _, fun x hx y hy => by
    rw [List.mem_singleton.mp hy]
    exact hd x hx⟩

/-- R132: a LEVEL frame joins a list without one of its segment. -/
theorem LoopBlock.Bounded.levelDue {l : LoopBlock} (h : l.Bounded) (g : Segment) : (l.levelDue g).Bounded := by
  obtain ⟨hout, hwait⟩ := h
  refine ⟨hout, ?_⟩
  unfold LoopBlock.levelDue
  dsimp only
  split
  · exact hwait
  · next hno =>
    refine DueFrame.apart_append hwait fun ⟨kind, segment⟩ hx => ?_
    cases kind with
    | status => exact .inl (by simp)
    | level =>
      refine .inr ⟨rfl, fun hg => hno ?_⟩
      obtain rfl : segment = g := hg
      exact List.contains_iff_mem.mpr hx

/-- R135: fewer frames outstanding, and a tail of the waiting list. -/
theorem LoopBlock.Bounded.mono {l m : LoopBlock} (h : l.Bounded) (hout : m.outstanding.length ≤ l.outstanding.length)
    (hwait : m.waiting.Sublist l.waiting) : m.Bounded :=
  ⟨hout.trans h.1, h.2.sublist hwait⟩

/-! ### The commands of the loop -/

theorem State.LoopLaw.levelSchedule {s : State} (h : s.LoopLaw) : s.levelSchedule.LoopLaw := by
  unfold State.levelSchedule
  split
  · next hp => exact .of_running hp (h.bounded.levelDue _)
  · exact h

/-- R133: a STATUS frame joins a list without one. -/
theorem State.LoopLaw.statusSchedule {s : State} (h : s.LoopLaw) : s.statusSchedule.LoopLaw := by
  unfold State.statusSchedule
  split
  · next hc =>
    obtain ⟨hp, hnone⟩ := hc
    obtain ⟨hout, hwait⟩ := h.bounded
    exact .of_running hp ⟨hout, DueFrame.apart_append hwait fun x hx => .inl (by simpa using List.any_eq_false.mp hnone x hx)⟩
  · exact h

/-- R135: the head of the waiting list becomes the second frame outstanding at most. -/
theorem State.LoopLaw.transmitStart {s : State} (h : s.LoopLaw) : s.transmitStart.LoopLaw := by
  unfold State.transmitStart
  split
  · exact h
  · next d rest hw =>
    split
    · next hc =>
      obtain ⟨hp, -, hroom⟩ := hc
      have hwait := h.bounded.2
      rw [hw] at hwait
      refine .of_running hp ⟨?_, hwait.of_cons⟩
      show (s.loop.outstanding ++ [_]).length ≤ _
      rw [List.length_append]
      exact hroom
    · exact h

theorem State.LoopLaw.transmitEnd {s : State} (h : s.LoopLaw) : s.transmitEnd.LoopLaw := by
  unfold State.transmitEnd
  split
  · next f hf =>
    obtain ⟨hsilent, hbound⟩ := h
    refine ⟨fun hp => ?_, LoopBlock.Bounded.mono hbound (List.length_map _).le (.refl _)⟩
    obtain ⟨-, hidle, -⟩ := hsilent hp
    rw [hf] at hidle
    cases hidle
  · exact h

/-- R139: a return leaves the part state and the waiting list, and takes the oldest frame from the outstanding list. -/
theorem State.takeReturn_frames (s : State) (o : Outstanding) (rest : List Outstanding) (bits : List Bool) :
    (s.takeReturn o rest bits).part = s.part ∧ (s.takeReturn o rest bits).loop.waiting = s.loop.waiting ∧
      (s.takeReturn o rest bits).loop.outstanding = rest := by
  unfold State.takeReturn
  rw [State.frameOutcome_eq, LoopBlock.judged_frame]
  dsimp only
  split
  · rw [State.writeStatus_frame]
    exact ⟨rfl, rfl, rfl⟩
  · exact ⟨rfl, rfl, rfl⟩

/-- R139, R144: the oldest frame has left the outstanding list. -/
theorem State.LoopLaw.withoutOldest {s t : State} {o : Outstanding} {rest : List Outstanding} (h : s.LoopLaw)
    (ho : s.loop.outstanding = o :: rest) (hp : t.part = s.part) (hwait : t.loop.waiting = s.loop.waiting)
    (hout : t.loop.outstanding = rest) : t.LoopLaw := by
  obtain ⟨hsilent, hbound⟩ := h
  have hrunning : s.part = .running := by
    by_contra hno
    obtain ⟨-, -, hnone⟩ := hsilent hno
    rw [ho] at hnone
    cases hnone
  refine .of_running (hp.trans hrunning) (LoopBlock.Bounded.mono hbound ?_ ?_)
  · rw [hout, ho]
    exact Nat.le_succ _
  · rw [hwait]

theorem State.LoopLaw.returnTimeout {s : State} (h : s.LoopLaw) : s.returnTimeout.LoopLaw := by
  unfold State.returnTimeout
  split
  · exact h
  · next o rest ho =>
    split
    · rw [State.frameOutcome_eq, LoopBlock.judged_frame]
      exact h.withoutOldest ho rfl rfl rfl
    · exact h

theorem State.LoopLaw.loopFrameReceived {s : State} (h : s.LoopLaw) (bits : List Bool) : (s.loopFrameReceived bits).LoopLaw := by
  unfold State.loopFrameReceived
  split
  · exact h
  · next o rest ho =>
    split
    · obtain ⟨hp, hwait, hout⟩ := s.takeReturn_frames o rest bits
      exact h.withoutOldest ho hp hwait hout
    · exact h

/-! ### Power-on and the end of loading -/

theorem State.enterLoading_loopLaw (s : State) : s.enterLoading.LoopLaw := .of_silent s.enterLoading_silent

/-- R191: POLL_SENT leaves the loop, or restarts the part. -/
theorem State.LoopLaw.pollSent {s : State} (h : s.LoopLaw) : s.pollSent.LoopLaw := by
  unfold State.pollSent
  split
  · split
    · exact s.enterLoading_loopLaw
    · unfold State.replySent
      split <;> exact h.of_loop rfl rfl
  · exact h
  · exact h

/-- R174, R175: the schedule starts from a silent loop at the entry to RUNNING, and not at the entry to UNCONFIGURED. -/
theorem State.LoopLaw.loadingEnd {s : State} (h : s.LoopLaw) (x : Contacts) : (s.loadingEnd x).LoopLaw := by
  unfold State.loadingEnd
  split
  · next hc =>
    obtain ⟨-, hp⟩ := hc
    have hsilent : s.loop.Silent := h.1 (by rw [hp]; decide)
    split
    · next T _ =>
      have hinstalled : (s.install .running T true x).LoopLaw := .of_silent hsilent
      have hstarted : (s.install .running T true x).startSchedule.LoopLaw := .of_running rfl (hinstalled.bounded.levelDue 0)
      rw [State.enterRunning_frame rfl]
      refine .of_running rfl ?_
      dsimp only
      split
      · exact hstarted.transmitStart.bounded
      · exact hstarted.bounded
    · rw [State.enterUnconfigured_frame]
      exact .of_silent hsilent
  · exact h

/-! ### Every step -/

/-- R131: every command keeps the law; those outside the loop leave the loop and the part state as they were, or enter or end
LOADING. -/
theorem exec_loopLaw (c : Instr) {s : State} (h : s.LoopLaw) : ∃ t, exec c s = .next t ∧ t.LoopLaw := by
  by_cases hon : c = .powerOn
  · subst hon
    exact ⟨_, rfl, State.enterLoading_loopLaw _⟩
  by_cases hoff : ∃ done rest, c = .powerLoss done rest
  · obtain ⟨done, rest, rfl⟩ := hoff
    refine ⟨_, rfl, ?_⟩
    unfold State.powerLoss
    split
    · exact State.enterLoading_loopLaw _
    · exact h
  by_cases hend : ∃ x y z, c = .loadingEnd x y z
  · obtain ⟨x, y, z, rfl⟩ := hend
    exact ⟨_, rfl, h.loadingEnd _⟩
  by_cases hsent : c = .pollSent
  · subst hsent
    exact ⟨_, rfl, h.pollSent⟩
  push Not at hoff hend
  have of_loop : ∀ {t : State}, exec c s = .next t → t.loop = s.loop → ∃ t, exec c s = .next t ∧ t.LoopLaw :=
    fun {t} ht hl => by
      obtain ⟨u, hu, keeps⟩ := exec_keepsLaws s hon hoff hend hsent
      obtain rfl : u = t := Host.Outcome.next.inj (hu.symm.trans ht)
      exact ⟨u, hu, h.of_loop keeps.part hl⟩
  cases hf : requestForm c with
  | some f => exact of_loop (exec_request hf s) (State.takeRequest_loop _ _ (State.serve_loop c) s)
  | none =>
    cases c with
    | powerOn => exact absurd rfl hon
    | powerLoss => exact absurd rfl (hoff _ _)
    | loadingEnd => exact absurd rfl (hend _ _ _)
    | pollSent => exact absurd rfl hsent
    | answerReceived => exact of_loop rfl (State.answerReceived_loop _ s)
    | answerWindowTimeout => exact of_loop rfl s.answerTimeout_loop
    | strayStationFrame => exact of_loop rfl rfl
    | lineLossTimerExpiry => exact of_loop rfl s.lineLossTimerExpiry_loop
    | egressAssertion => exact of_loop rfl s.egressAssertion_loop
    | egressRelease => exact of_loop rfl s.egressRelease_loop
    | cueInputDebounced => exact of_loop rfl (State.cueInput_loop _ _ s)
    | takeEventRecord => exact of_loop rfl s.takeEventRecord_loop
    | claimActionGrant => exact of_loop rfl s.claimActionGrant_loop
    | absenceGrant => exact of_loop rfl s.absenceGrant_loop
    | stationRemovalGrant => exact of_loop rfl s.stationRemovalGrant_loop
    | claimTimerExpiry => exact of_loop rfl s.claimTimerExpiry_loop
    | expiryGrant => exact of_loop rfl s.expiryGrant_loop
    | setLevelGrant => exact of_loop rfl s.setLevelGrant_loop
    | releaseLayerGrant => exact of_loop rfl s.releaseLayerGrant_loop
    | mergeRuleGrant => exact of_loop rfl s.mergeRuleGrant_loop
    | recallGrant => exact of_loop rfl s.recallGrant_loop
    | recallCompletion => exact of_loop rfl s.recallCompletion_loop
    | releaseGrant => exact of_loop rfl s.releaseGrant_loop
    | captureGrant => exact of_loop rfl s.captureGrant_loop
    | cueGrant => exact of_loop rfl s.cueGrant_loop
    | cueCompletion => exact of_loop rfl s.cueCompletion_loop
    | modeChangeGrant => exact of_loop rfl s.modeChangeGrant_loop
    | fadeStepTimerExpiry => exact of_loop rfl s.fadeStep_loop
    | levelScheduleTimerExpiry => exact ⟨_, rfl, h.levelSchedule⟩
    | statusScheduleTimerExpiry => exact ⟨_, rfl, h.statusSchedule⟩
    | frameTransmitStart => exact ⟨_, rfl, h.transmitStart⟩
    | frameTransmitEnd => exact ⟨_, rfl, h.transmitEnd⟩
    | returnTimeout => exact ⟨_, rfl, h.returnTimeout⟩
    | loopFrameReceived => exact ⟨_, rfl, h.loopFrameReceived _⟩
    | saveCompletion => exact of_loop rfl (State.saveCompletion_loop _ s)
    | verifyCompletion => exact of_loop rfl s.verifyCompletion_loop
    | _ => cases hf

/-- Settles O10: six commands touch the frames of the loop, each within the law; power-on silences it, and no other command reaches
it. -/
theorem stepKeepsTheLoopLaw : Obligations.StepKeepsTheLoopLaw := by
  intro s t _ hlaw h
  unfold step at h
  split at h
  · cases h
    exact hlaw
  · next c rest _ =>
    obtain ⟨u, hu, hkept⟩ := exec_loopLaw c (hlaw.of_loop (t := s.withPending rest) rfl rfl)
    obtain rfl : u = t := Host.Outcome.next.inj (hu.symm.trans h)
    exact hkept

end Sys2Proof.Machine
end

section
/-! PROOFS. The schedule of the loop and the sending of a frame (O50). -/

namespace Sys2Proof.Machine

/-! ### Outside RUNNING (R131) -/

theorem State.levelSchedule_idle {s : State} (hp : s.part ≠ .running) : s.levelSchedule = s := if_neg hp

theorem State.statusSchedule_idle {s : State} (hp : s.part ≠ .running) : s.statusSchedule = s := if_neg fun h => hp h.1

/-- R131, R135: nothing is sent outside RUNNING, without a frame that waits, while the transmitter sends, or with 2 frames
outstanding. -/
theorem State.transmitStart_idle {s : State}
    (h : s.part ≠ .running ∨ s.loop.waiting = [] ∨ s.loop.transmitter ≠ none ∨ 2 ≤ s.loop.outstanding.length) :
    s.transmitStart = s := by
  unfold State.transmitStart
  split
  · rfl
  · next d rest hw =>
    refine if_neg fun ⟨hp, hidle, hroom⟩ => ?_
    rcases h with h | h | h | h
    · exact h hp
    · rw [hw] at h
      cases h
    · exact h hidle
    · exact absurd hroom (Nat.not_lt.mpr h)

/-! ### The schedule (R132, R133) -/

theorem State.levelSchedule_running {s : State} (hp : s.part = .running) :
    s.levelSchedule = { s with
      loop :=
        { s.loop with
          waiting :=
            if ({ kind := .level, segment := s.loop.levelRotation } : DueFrame) ∈ s.loop.waiting then s.loop.waiting
            else s.loop.waiting ++ [{ kind := .level, segment := s.loop.levelRotation }]
          levelRotation := s.loop.levelRotation + 1 } } := by
  unfold State.levelSchedule LoopBlock.levelDue
  rw [if_pos hp]
  simp only [List.contains_iff_mem]
  rfl

/-- R133: a STATUS frame waits already. -/
theorem State.statusSchedule_waiting {s : State} (h : ∃ d ∈ s.loop.waiting, d.kind = .status) : s.statusSchedule = s := by
  obtain ⟨d, hd, hkind⟩ := h
  refine if_neg fun ⟨_, hnone⟩ => ?_
  have := List.any_eq_false.mp hnone d hd
  simp [hkind] at this

theorem State.statusSchedule_running {s : State} (hp : s.part = .running) (h : ∀ d ∈ s.loop.waiting, d.kind ≠ .status) :
    s.statusSchedule = { s with
      loop :=
        { s.loop with
          waiting := s.loop.waiting ++ [{ kind := .status, segment := s.loop.statusRotation }]
          statusRotation := s.loop.statusRotation + 1 } } :=
  if_pos ⟨hp, List.any_eq_false.mpr fun d hd => by simpa using h d hd⟩

/-! ### The frame built for the head of the waiting list (R136, R137) -/

/-- R136: the codes of a segment, each at the place of its circuit. -/
theorem State.segmentCodes_spec (s : State) (g : Segment) :
    (s.segmentCodes g).length = 128 ∧
      ∀ c : Circuit, segmentOf c = g → (s.segmentCodes g)[c.val % 128]? = some (BitVec.ofNat 16 (s.eng c).code) := by
  unfold State.segmentCodes
  rw [filter_segment]
  refine ⟨by simp, fun c hc => ?_⟩
  have hplace : (List.finRange 128)[c.val % 128]? = some ⟨c.val % 128, by omega⟩ := by
    rw [List.getElem?_eq_getElem (by rw [List.length_finRange]; omega), List.getElem_finRange]
    rfl
  rw [List.getElem?_map, List.getElem?_map, hplace, ← hc]
  exact congrArg (fun k : Circuit => some (BitVec.ofNat 16 (s.eng k).code)) (segmentCircuit_segmentOf c)

theorem State.frameSlots_spec (s : State) (d : DueFrame) :
    (s.frameSlots d).length = 128 ∧
      ∀ c : Circuit, segmentOf c = d.segment →
        (s.frameSlots d)[c.val % 128]? = some (if d.kind = .level then BitVec.ofNat 16 (s.eng c).code else 0) := by
  obtain ⟨kind, g⟩ := d
  cases kind with
  | level => exact s.segmentCodes_spec g
  | status =>
    refine ⟨List.length_replicate, fun c _ => ?_⟩
    show (List.replicate 128 (0 : Word))[c.val % 128]? = some 0
    rw [List.getElem?_replicate, if_pos (Nat.mod_lt _ (by decide))]

theorem State.transmitStart_sends {s : State} {d : DueFrame} {rest : List DueFrame} (hp : s.part = .running)
    (hw : s.loop.waiting = d :: rest) (hidle : s.loop.transmitter = none) (hroom : s.loop.outstanding.length < 2) :
    s.transmitStart = { s with
      loop :=
        { s.loop with
          waiting := rest
          transmitter := some (s.builtFrame d)
          nextSeq := s.loop.nextSeq + 1
          outstanding :=
            s.loop.outstanding ++
              [{ kind := d.kind, segment := d.segment, seq := s.loop.nextSeq,
                 sent := if d.kind = .level then (s.builtFrame d).slots else [], ended := false }] } } := by
  unfold State.transmitStart
  rw [hw]
  exact if_pos ⟨hp, hidle, hroom⟩

theorem State.transmitEnd_sent {s : State} {f : LoopFrame} (h : s.loop.transmitter = some f) :
    s.transmitEnd = { s with
      loop :=
        { s.loop with
          transmitter := none
          outstanding := s.loop.outstanding.map fun o => if o.seq = f.seq then { o with ended := true } else o } } := by
  unfold State.transmitEnd
  rw [h]
  rfl

/-- Settles O50: each expiry, start and end is one change of the loop block, or none; the frame built is `State.builtFrame`. -/
theorem loopFramesFallDueAndAreSent : Obligations.LoopFramesFallDueAndAreSent := by
  have next : ∀ {t u : State}, t = u → Host.Outcome.next (φ := Fault) (ρ := Refusal) t = .next u := congrArg _
  refine ⟨fun s hp => ⟨next (State.levelSchedule_idle hp), next (State.statusSchedule_idle hp),
      next (State.transmitStart_idle (.inl hp))⟩,
    fun s hp => ⟨next (State.levelSchedule_running hp), fun h => next (State.statusSchedule_waiting h),
      fun h => next (State.statusSchedule_running hp h), fun h => next (State.transmitStart_idle (.inr h)), ?_,
      fun f h => next (State.transmitEnd_sent h)⟩⟩
  intro d rest hw hidle hroom
  obtain ⟨hlength, hslots⟩ := s.frameSlots_spec d
  exact ⟨s.builtFrame d, rfl, rfl, rfl, hlength, hslots, next (State.transmitStart_sends hp hw hidle hroom)⟩

end Sys2Proof.Machine
end

section
/-! PROOFS. Confirmation records: what a confirmation leaves, and what a report of a LEVEL frame does to each record (O53). -/

namespace Sys2Proof.Machine

/-! ### Confirmations (R154, R155) -/

/-- R155: the segment entries of a new record. -/
theorem State.segmentWaits_spec (s : State) (circuits : List Circuit) :
    (∀ g : Segment, (∃ w ∈ s.segmentWaits circuits, w.segment = g) ↔ ∃ c ∈ circuits, segmentOf c = g) ∧
      ((s.segmentWaits circuits).map (·.segment)).Nodup ∧
      ∀ w ∈ s.segmentWaits circuits, w.state = .waiting ∧ w.failures = 0 ∧
        w.pass = s.loop.outstanding.countP fun o => o.kind == .level && o.segment == w.segment := by
  unfold State.segmentWaits
  refine ⟨fun g => ?_, ?_, ?_⟩
  · simp
  · rw [List.map_map]
    exact ((List.nodup_finRange 4).filter _).map fun _ _ h => h
  · intro w hw
    obtain ⟨g, -, rfl⟩ := List.mem_map.mp hw
    exact ⟨rfl, rfl, List.countP_eq_length_filter.symm⟩

section Confirm

variable {s : State} {station control : Nat} {circuits : List Circuit} (hears : s.hears station control = true)

include hears

theorem State.confirm_nothing : s.confirm station control [] = s.outcome station control true := by
  unfold State.confirm
  rw [if_pos hears]
  rfl

theorem State.confirm_unconfigured (hc : circuits ≠ []) (hp : s.part = .unconfigured) :
    s.confirm station control circuits = s.outcome station control false := by
  unfold State.confirm
  rw [if_pos hears, if_neg (by simpa using hc), if_pos hp]

/-- R155: in RUNNING a record of the control gives its place to the new one, and a list with room takes it. -/
theorem State.confirm_running (hc : circuits ≠ []) (hp : s.part = .running) :
    let own : Confirmation → Bool := fun r => r.station == station && r.control == control
    s.confirm station control circuits =
      if s.feedback.confirmations.any own = true ∨ s.feedback.confirmations.length < 16 then
        { s with
          feedback :=
            { s.feedback with
              confirmations := s.feedback.confirmations.filter (fun r => !own r) ++
                [{ station := station, control := control, segments := s.segmentWaits circuits }] } }
      else s.outcome station control true := by
  intro own
  have hown : (s.feedback.confirmations.filter fun r => !own r).length < s.feedback.confirmations.length ↔
      s.feedback.confirmations.any own = true := by
    rw [List.length_filter_lt_length_iff_exists]
    simp
  unfold State.confirm
  rw [if_pos hears, if_neg (by simpa using hc), if_neg (by rw [hp]; decide)]
  refine if_congr ?_ rfl rfl
  rw [Bool.or_eq_true, decide_eq_true_iff, decide_eq_true_iff]
  exact or_congr_left hown

end Confirm

/-! ### The outcomes of settled records (R157) -/

/-- R155: no two records of one station control. -/
def OwnersApart (l : List Confirmation) : Prop := l.Pairwise fun a b => ¬(a.station = b.station ∧ a.control = b.control)

theorem OwnersApart.eq_of_owner {l : List Confirmation} (h : OwnersApart l) {a b : Confirmation} (ha : a ∈ l) (hb : b ∈ l)
    (hst : a.station = b.station) (hk : a.control = b.control) : a = b := by
  by_contra hne
  have : Std.Symm fun a b : Confirmation => ¬(a.station = b.station ∧ a.control = b.control) :=
    ⟨fun _ _ hxy ⟨hst, hk⟩ => hxy ⟨hst.symm, hk.symm⟩⟩
  exact List.Pairwise.forall h ha hb hne ⟨hst, hk⟩

theorem State.settleConfirmations_other (l : List Confirmation) {s : State} {st k : Nat}
    (h : ∀ r ∈ l, ¬(st = r.station ∧ k = r.control)) : (State.settleConfirmations l s).shotOf st k = s.shotOf st k := by
  induction l generalizing s with
  | nil => rfl
  | cons r rest ih =>
    obtain ⟨hr, hrest⟩ := List.forall_mem_cons.mp h
    exact (ih hrest).trans (State.shotOf_outcome_other s _ hr)

theorem State.settleConfirmations_own {l : List Confirmation} (hl : OwnersApart l) {s : State} {r : Confirmation} (hr : r ∈ l)
    (hears : s.hears r.station r.control = true) :
    (State.settleConfirmations l s).shotOf r.station r.control = some (!r.failed) := by
  induction l generalizing s with
  | nil => cases hr
  | cons q rest ih =>
    obtain ⟨hq, hrest⟩ := List.pairwise_cons.mp hl
    rcases List.mem_cons.mp hr with rfl | hr
    · exact (State.settleConfirmations_other rest fun x hx => hq x hx).trans (State.shotOf_outcome_self _ hears)
    · exact ih hrest hr (by rw [State.hears_outcome]; exact hears)

theorem State.settleConfirmations_confirmations (l : List Confirmation) (s : State) :
    (State.settleConfirmations l s).feedback.confirmations = s.feedback.confirmations := by
  induction l generalizing s with
  | nil => rfl
  | cons r rest ih =>
    refine (ih _).trans ?_
    rw [State.outcome_shots]

/-! ### A report (R156, R157) -/

/-- R157: the records that a report leaves, in their order. -/
theorem State.levelReport_confirmations (s : State) (g : Segment) (intact : Bool) :
    (s.levelReport g intact).feedback.confirmations =
      (s.feedback.confirmations.filter fun r => !(r.reported g intact).settled).map (Confirmation.reported g intact) := by
  refine (State.settleConfirmations_confirmations _ _).trans ?_
  exact List.filter_map ..

theorem State.mem_levelReport {s : State} {g : Segment} {intact : Bool} {q : Confirmation} :
    q ∈ (s.levelReport g intact).feedback.confirmations ↔
      ∃ r ∈ s.feedback.confirmations, (r.reported g intact).settled = false ∧ r.reported g intact = q := by
  rw [State.levelReport_confirmations, List.mem_map]
  simp only [List.mem_filter, Bool.not_eq_true', and_assoc]

section Report

variable {s : State} {g : Segment} {intact : Bool} (apart : OwnersApart s.feedback.confirmations)

/-- R157: a control without a settled record keeps its one-shot. -/
theorem State.levelReport_other {st k : Nat}
    (h : ∀ r ∈ s.feedback.confirmations, r.station = st → r.control = k → (r.reported g intact).settled = false) :
    (s.levelReport g intact).shotOf st k = s.shotOf st k := by
  refine State.settleConfirmations_other _ fun q hq ⟨hst, hk⟩ => ?_
  obtain ⟨hmem, hsettled⟩ := List.mem_filter.mp hq
  obtain ⟨r, hr, rfl⟩ := List.mem_map.mp hmem
  rw [h r hr hst.symm hk.symm] at hsettled
  cases hsettled

include apart

/-- R157: the control of a settled record that can be heard has NACK for a failed record, and otherwise ACK. -/
theorem State.levelReport_settled {r : Confirmation} (hr : r ∈ s.feedback.confirmations)
    (hsettled : (r.reported g intact).settled = true) (hears : s.hears r.station r.control = true) :
    (s.levelReport g intact).shotOf r.station r.control = some (!(r.reported g intact).failed) := by
  have hall : OwnersApart (s.feedback.confirmations.map (Confirmation.reported g intact)) := List.pairwise_map.mpr apart
  exact State.settleConfirmations_own (hall.filter _) (r := r.reported g intact)
    (List.mem_filter.mpr ⟨List.mem_map_of_mem hr, hsettled⟩) hears

/-- R157: a settled record leaves the list, and with it the last record of its control. -/
theorem State.levelReport_leaves {r : Confirmation} (hr : r ∈ s.feedback.confirmations)
    (hsettled : (r.reported g intact).settled = true) :
    ∀ q ∈ (s.levelReport g intact).feedback.confirmations, ¬(q.station = r.station ∧ q.control = r.control) := by
  rintro q hq ⟨hst, hk⟩
  obtain ⟨x, hx, hopen, rfl⟩ := State.mem_levelReport.mp hq
  obtain rfl : x = r := apart.eq_of_owner hx hr hst hk
  rw [hsettled] at hopen
  cases hopen

end Report

/-! ### A record of one segment -/

theorem Confirmation.reported_single {r : Confirmation} {w : SegmentWait} (h : r.segments = [w]) (g : Segment) (intact : Bool) :
    r.reported g intact = { r with segments := [w.reported g intact] } := by
  unfold Confirmation.reported
  rw [h]
  rfl

/-- R156: the report of a WAITING entry. -/
theorem SegmentWait.reported_waiting {w : SegmentWait} (hw : w.state = .waiting) (g : Segment) (intact : Bool) :
    (w.segment ≠ g → w.reported g intact = w) ∧
      (w.segment = g → 0 < w.pass → w.reported g intact = { w with pass := w.pass - 1 }) ∧
      (w.segment = g → w.pass = 0 → intact = true → w.reported g intact = { w with state := .satisfied }) ∧
      (w.segment = g → w.pass = 0 → intact = false → w.failures < 2 →
        w.reported g intact = { w with failures := w.failures + 1 }) ∧
      (w.segment = g → w.pass = 0 → intact = false → 2 ≤ w.failures →
        w.reported g intact = { w with failures := w.failures + 1, state := .failed }) := by
  unfold SegmentWait.reported
  refine ⟨fun hg => if_neg fun h => hg h.1, fun hg hpass => ?_, fun hg hpass hi => ?_, fun hg hpass hi hf => ?_,
    fun hg hpass hi hf => ?_⟩
  all_goals rw [if_pos ⟨hg, hw⟩]
  · rw [if_pos hpass]
  all_goals rw [if_neg (by omega), hi]
  · rfl
  · have hlimit : ¬Config.failLimit ≤ w.failures + 1 := by
      unfold Config.failLimit
      omega
    rw [if_neg (by decide), if_neg hlimit, hw]
  · have hlimit : Config.failLimit ≤ w.failures + 1 := by
      unfold Config.failLimit
      omega
    rw [if_neg (by decide), if_pos hlimit]

section Single

variable {s : State} {g : Segment} {intact : Bool} {r : Confirmation} {w w' : SegmentWait}
  (hr : r ∈ s.feedback.confirmations) (hone : r.segments = [w]) (hw : w.reported g intact = w')

include hr hone hw

/-- R157: a record whose one entry still waits stays in the list. -/
theorem State.levelReport_waits (hwaits : w'.state = .waiting) :
    { r with segments := [w'] } ∈ (s.levelReport g intact).feedback.confirmations := by
  have hreported := Confirmation.reported_single hone g intact
  rw [hw] at hreported
  refine State.mem_levelReport.mpr ⟨r, hr, ?_, hreported⟩
  rw [hreported]
  simp [Confirmation.settled, Confirmation.failed, hwaits]

/-- R157: a record whose one entry is SATISFIED or FAILED leaves the list with its outcome. -/
theorem State.levelReport_ends (apart : OwnersApart s.feedback.confirmations) {ack : Bool}
    (hend : w'.state = if ack then .satisfied else .failed) :
    (∀ q ∈ (s.levelReport g intact).feedback.confirmations, ¬(q.station = r.station ∧ q.control = r.control)) ∧
      (s.hears r.station r.control = true → (s.levelReport g intact).shotOf r.station r.control = some ack) := by
  have hreported := Confirmation.reported_single hone g intact
  rw [hw] at hreported
  have hsettled : (r.reported g intact).settled = true ∧ (!(r.reported g intact).failed) = ack := by
    rw [hreported]
    cases ack <;> simp [Confirmation.settled, Confirmation.failed, hend]
  obtain ⟨hsettled, hack⟩ := hsettled
  refine ⟨State.levelReport_leaves apart hr hsettled, fun hears => ?_⟩
  rw [← hack]
  exact State.levelReport_settled apart hr hsettled hears

end Single

/-! ### Records of any number of segments -/

/-- R156, by the negation of its first condition. -/
theorem SegmentWait.reported_eq (g : Segment) (intact : Bool) (w : SegmentWait) :
    w.reported g intact =
      if w.segment ≠ g ∨ w.state ≠ .waiting then w
      else if 0 < w.pass then { w with pass := w.pass - 1 }
      else if intact then { w with state := .satisfied }
      else { w with failures := w.failures + 1, state := if 3 ≤ w.failures + 1 then .failed else .waiting } := by
  unfold SegmentWait.reported
  by_cases h : w.segment = g ∧ w.state = .waiting
  · rw [if_pos h]
    exact (if_neg fun hno => hno.elim (absurd h.1) (absurd h.2)).symm
  · rw [if_neg h, if_pos (not_and_or.mp h)]

theorem Confirmation.failed_iff (r : Confirmation) : r.failed = true ↔ ∃ w ∈ r.segments, w.state = .failed := by
  unfold Confirmation.failed
  simp

theorem Confirmation.settled_iff (r : Confirmation) :
    r.settled = true ↔ (∃ w ∈ r.segments, w.state = .failed) ∨ ∀ w ∈ r.segments, w.state = .satisfied := by
  unfold Confirmation.settled
  rw [Bool.or_eq_true, r.failed_iff]
  simp

/-- R157: a record stays while none of its entries is FAILED and one is not SATISFIED. -/
theorem Confirmation.open_iff (r : Confirmation) :
    r.settled = false ↔ (¬∃ w ∈ r.segments, w.state = .failed) ∧ ¬∀ w ∈ r.segments, w.state = .satisfied := by
  rw [← Bool.not_eq_true, r.settled_iff, not_or]

/-- Settles O53: a confirmation is one record of `State.segmentWaits`; a report moves every record on and takes out the settled
ones. -/
theorem confirmationsWaitForTheirFrames : Obligations.ConfirmationsWaitForTheirFrames := by
  refine ⟨?confirms, ?single, ?several⟩
  case confirms =>
    intro s station control circuits hears own held
    refine ⟨?_, State.confirm_unconfigured hears, fun hc hp hfull hnone => ?_, fun hc hp hroom => ?_⟩
    · rintro rfl
      exact State.confirm_nothing hears
    · rw [State.confirm_running hears hc hp, if_neg]
      rintro (h | h)
      · rw [hnone] at h
        cases h
      · exact absurd h (Nat.not_lt.mpr hfull)
    · obtain ⟨hsegments, hnodup, hwaits⟩ := s.segmentWaits_spec circuits
      refine ⟨_, (State.confirm_running hears hc hp).trans (if_pos hroom.symm), rfl, rfl, hsegments, hnodup, hwaits⟩
  case single =>
    intro s g intact r w apart hr hone hw
    obtain ⟨hother, hpassed, hsatisfied, hagain, hlast⟩ := SegmentWait.reported_waiting hw g intact
    refine ⟨fun hg => ?_, fun hg hpass => State.levelReport_waits hr hone (hpassed hg hpass) hw,
      fun hg hpass hi => State.levelReport_ends hr hone (hsatisfied hg hpass hi) apart (ack := true) rfl,
      fun hg hpass hi hf => State.levelReport_waits hr hone (hagain hg hpass hi hf) hw,
      fun hg hpass hi hf => State.levelReport_ends hr hone (hlast hg hpass hi hf) apart (ack := false) rfl⟩
    have hsame := State.levelReport_waits hr hone (hother hg) hw
    rwa [← hone] at hsame
  case several =>
    intro s g intact apart after reported lost won
    have hafter : SegmentWait.reported g intact = after := funext (SegmentWait.reported_eq g intact)
    have hreported : Confirmation.reported g intact = reported := by
      unfold Confirmation.reported
      rw [hafter]
    have hopen {r : Confirmation} : ¬lost (reported r) ∧ ¬won (reported r) ↔ (r.reported g intact).settled = false := by
      rw [hreported]
      exact (Confirmation.open_iff _).symm
    refine ⟨s.levelReport_feedback_only g intact, fun r hr hl hw => ?_, ?_, fun r hr hears => ⟨fun hl => ?_, fun hl hw => ?_⟩,
      fun st k h => State.levelReport_other fun r hr hst hk => hopen.mp (h r hr hst hk)⟩
    · exact State.mem_levelReport.mpr ⟨r, hr, hopen.mp ⟨hl, hw⟩, by rw [hreported]⟩
    · refine ⟨_, List.filter_sublist, (s.levelReport_confirmations g intact).trans (by rw [hreported]),
        fun r hr => hopen.mpr ?_⟩
      rw [hreported]
      simpa using (List.mem_filter.mp hr).2
    · have hfailed : (r.reported g intact).failed = true := (Confirmation.failed_iff _).mpr (by rw [hreported]; exact hl)
      have hsettled : (r.reported g intact).settled = true := (Confirmation.settled_iff _).mpr (.inl (by rw [hreported]; exact hl))
      rw [State.levelReport_settled apart hr hsettled hears, hfailed]
      rfl
    · have hfailed : (r.reported g intact).failed = false :=
        Bool.eq_false_iff.mpr fun h => hl (by rw [Confirmation.failed_iff, hreported] at h; exact h)
      have hsettled : (r.reported g intact).settled = true := (Confirmation.settled_iff _).mpr (.inr (by rw [hreported]; exact hw))
      rw [State.levelReport_settled apart hr hsettled hears, hfailed]
      rfl

end Sys2Proof.Machine
end

section
/-! SUPPORT. Loop frames as bits: words and slots read back from their bits, and the check of a received frame against the frame
sent. -/

namespace Sys2Proof.Machine

/-! ### Words as bits (R194) -/

@[simp] theorem length_wordBits (w : Word) : (wordBits w).length = 16 := rfl

@[simp] theorem length_slotBits (w : Word) : (slotBits w).length = 17 := rfl

/-- The bits of a word, least significant first. -/
theorem reverse_wordBits (w : Word) : (wordBits w).reverse = (List.range 16).map w.getLsbD := rfl

/-- The bits of the word that a string of bits spells. -/
theorem getLsbD_wordOfBits (l : List Bool) {i : Nat} (hi : i < 16) : (wordOfBits l).getLsbD i = l.reverse[i]?.getD false := by
  induction l using List.reverseRecOn generalizing i with
  | nil => simp [wordOfBits]
  | append_singleton l b ih =>
    have hlast : wordOfBits (l ++ [b]) = (wordOfBits l <<< 1) ||| (if b then 1#16 else 0#16) := by
      unfold wordOfBits
      rw [List.foldl_append]
      rfl
    rw [hlast, List.reverse_append]
    cases i with
    | zero => cases b <;> simp
    | succ i =>
      have hone : (if b then 1#16 else 0#16).getLsbD (i + 1) = false := by cases b <;> simp
      rw [BitVec.getLsbD_or, hone, Bool.or_false, BitVec.getLsbD_shiftLeft]
      simpa [hi] using ih (Nat.lt_of_succ_lt hi)

/-- A word reads back from its bits. -/
theorem wordOfBits_wordBits (w : Word) : wordOfBits (wordBits w) = w := by
  refine BitVec.eq_of_getLsbD_eq fun i hi => ?_
  rw [getLsbD_wordOfBits _ hi, reverse_wordBits, List.getElem?_map, List.getElem?_range hi]
  rfl

/-- 16 bits are those of the word that they spell. -/
theorem wordBits_wordOfBits {l : List Bool} (h : l.length = 16) : wordBits (wordOfBits l) = l := by
  refine List.reverse_injective (List.ext_getElem (by simp [h]) fun i hi hl => ?_)
  have hi : i < 16 := by simpa using hi
  simp only [reverse_wordBits, List.getElem_map, List.getElem_range]
  rw [getLsbD_wordOfBits _ hi, List.getElem?_eq_getElem hl]
  rfl

/-! ### Parity (R130) -/

theorem foldl_xor (l : List Bool) (b : Bool) : l.foldl (· ^^ ·) b = (b ^^ oddOnes l) := by
  unfold oddOnes
  induction l generalizing b with
  | nil => simp
  | cons x rest ih => rw [List.foldl_cons, List.foldl_cons, ih, ih (false ^^ x), Bool.false_xor, Bool.xor_assoc]

theorem oddOnes_cons (x : Bool) (l : List Bool) : oddOnes (x :: l) = (x ^^ oddOnes l) := by
  refine (foldl_xor l (false ^^ x)).trans ?_
  rw [Bool.false_xor]

theorem oddOnes_append (l m : List Bool) : oddOnes (l ++ m) = (oddOnes l ^^ oddOnes m) := by
  rw [← foldl_xor]
  exact List.foldl_append

theorem oddOnes_iff (l : List Bool) : oddOnes l = true ↔ l.count true % 2 = 1 := by
  induction l with
  | nil => decide
  | cons x rest ih =>
    rw [oddOnes_cons, List.count_cons]
    cases x with
    | false => simpa using ih
    | true =>
      rw [Bool.true_xor, Bool.not_eq_true', ← Bool.not_eq_true, ih]
      simp
      omega

theorem oddOnes_slotBits (w : Word) : oddOnes (slotBits w) = true := by
  unfold slotBits
  rw [oddOnes_append]
  cases oddOnes (wordBits w) <;> rfl

/-- The value of a slot reads back from its first 16 bits. -/
theorem wordOfBits_slotBits (w : Word) : wordOfBits ((slotBits w).take 16) = w :=
  wordOfBits_wordBits w

/-- 17 bits with an odd number of ones are the slot of the word that the first 16 spell. -/
theorem eq_slotBits {l : List Bool} (hl : l.length = 17) (hodd : oddOnes l = true) : l = slotBits (wordOfBits (l.take 16)) := by
  obtain ⟨b, hb⟩ : ∃ b, l.drop 16 = [b] := List.length_eq_one_iff.mp (by simp [hl])
  have hsplit : l.take 16 ++ [b] = l := by rw [← hb, List.take_append_drop]
  have hparity : b = !oddOnes (l.take 16) := by
    rw [← hsplit, oddOnes_append] at hodd
    have hb : oddOnes [b] = b := by cases b <;> rfl
    rw [hb] at hodd
    revert hodd
    cases b <;> simp
  unfold slotBits
  rw [wordBits_wordOfBits (by simp [hl]), ← hparity, hsplit]

/-! ### The slots of a received frame (R141, R142) -/

/-- Every one of a list of slot values is good, counted from slot `i`. -/
def GoodSlots (good : Nat → Word → Bool) (i : Nat) (ws : List Word) : Prop :=
  ∀ (j : Nat) (h : j < ws.length), good (i + j) ws[j] = true

section Slots

variable {good : Nat → Word → Bool}

theorem checkSlots_short (n i : Nat) {bits : List Bool} (h : bits.length < 17) :
    checkSlots good (n + 1) i bits = .fault (.corrupt none) := by
  unfold checkSlots
  rw [if_pos h]

theorem checkSlots_parity (n i : Nat) {bits : List Bool} (hl : 17 ≤ bits.length) (h : oddOnes (bits.take 17) = false) :
    checkSlots good (n + 1) i bits = .fault (.parity i) := by
  unfold checkSlots
  rw [if_neg (Nat.not_lt.mpr hl), h]
  rfl

theorem checkSlots_value (n i : Nat) {bits : List Bool} (hl : 17 ≤ bits.length) (h : oddOnes (bits.take 17) = true)
    (hbad : good i (wordOfBits (bits.take 16)) = false) : checkSlots good (n + 1) i bits = .fault (.corrupt (some i)) := by
  unfold checkSlots
  rw [if_neg (Nat.not_lt.mpr hl), h, hbad]
  rfl

theorem checkSlots_pass (n i : Nat) {w : Word} (h : good i w = true) (tail : List Bool) :
    checkSlots good (n + 1) i (slotBits w ++ tail) = checkSlots good n (i + 1) tail := by
  have hslot : (slotBits w ++ tail).take 17 = slotBits w := List.take_left' rfl
  have hvalue : wordOfBits ((slotBits w ++ tail).take 16) = w := wordOfBits_slotBits w
  have htail : (slotBits w ++ tail).drop 17 = tail := List.drop_left' rfl
  rw [checkSlots, if_neg (by simp), hslot, oddOnes_slotBits, hvalue, h, htail]
  rfl

theorem GoodSlots.head {i : Nat} {w : Word} {ws : List Word} (h : GoodSlots good i (w :: ws)) : good i w = true :=
  h 0 (Nat.succ_pos _)

theorem GoodSlots.tail {i : Nat} {w : Word} {ws : List Word} (h : GoodSlots good i (w :: ws)) : GoodSlots good (i + 1) ws :=
  fun j hj => by
    have := h (j + 1) (Nat.succ_lt_succ hj)
    rwa [List.getElem_cons_succ, ← Nat.add_assoc, Nat.add_right_comm] at this

/-- Good slots as sent are passed. -/
theorem checkSlots_good {i : Nat} {ws : List Word} (h : GoodSlots good i ws) (n : Nat) (tail : List Bool) :
    checkSlots good (n + ws.length) i (ws.flatMap slotBits ++ tail) = checkSlots good n (i + ws.length) tail := by
  induction ws generalizing i with
  | nil => rfl
  | cons w ws ih =>
    rw [List.flatMap_cons, List.append_assoc, List.length_cons, ← Nat.add_assoc,
      checkSlots_pass _ _ h.head, ih h.tail, Nat.add_right_comm, Nat.add_assoc]

/-- Good slots cut off before the end of the last one. -/
theorem checkSlots_cut {i : Nat} {ws : List Word} (h : GoodSlots good i ws) (tail : List Bool) {k : Nat}
    (hk : k < 17 * ws.length) :
    checkSlots good ws.length i ((ws.flatMap slotBits ++ tail).take k) = .fault (.corrupt none) := by
  induction ws generalizing i k with
  | nil => exact absurd hk (Nat.not_lt_zero k)
  | cons w ws ih =>
    rw [List.length_cons] at hk ⊢
    by_cases hshort : k < 17
    · exact checkSlots_short _ _ ((List.length_take_le _ _).trans_lt hshort)
    · rw [List.flatMap_cons, List.append_assoc, List.take_append, List.take_of_length_le (by simp; omega),
        checkSlots_pass _ _ h.head, length_slotBits]
      exact ih h.tail (by omega)

end Slots

theorem slotValues_flatMap (ws : List Word) (tail : List Bool) : slotValues ws.length (ws.flatMap slotBits ++ tail) = ws := by
  induction ws with
  | nil => rfl
  | cons w ws ih =>
    have hvalue : wordOfBits ((slotBits w ++ (ws.flatMap slotBits ++ tail)).take 16) = w := wordOfBits_slotBits w
    have htail : (slotBits w ++ (ws.flatMap slotBits ++ tail)).drop 17 = ws.flatMap slotBits ++ tail := List.drop_left' rfl
    rw [List.flatMap_cons, List.append_assoc, List.length_cons]
    unfold slotValues
    rw [hvalue, htail, ih]

/-! ### A received frame against the frame sent (R140 to R142) -/

/-- The bits of the header that a return of an outstanding frame carries (R140). -/
def Outstanding.header (o : Outstanding) : List Bool := (loopHeader o.kind o.segment o.seq).flatMap byteBits

/-- The bits of a frame with the header of an outstanding one. -/
def Outstanding.frameBits (o : Outstanding) (ws : List Word) : List Bool :=
  LoopFrame.bits { kind := o.kind, segment := o.segment, seq := o.seq, slots := ws }

theorem length_flatMap_slotBits (ws : List Word) : (ws.flatMap slotBits).length = 17 * ws.length := by
  rw [List.length_flatMap]
  simp [Nat.mul_comm]

theorem take_flatMap_slotBits {ws : List Word} {j : Nat} (hj : j ≤ ws.length) :
    (ws.flatMap slotBits).take (17 * j) = (ws.take j).flatMap slotBits := by
  have hsplit : ws.flatMap slotBits = (ws.take j).flatMap slotBits ++ (ws.drop j).flatMap slotBits := by
    rw [← List.flatMap_append, List.take_append_drop]
  rw [hsplit]
  exact List.take_left' (by rw [length_flatMap_slotBits, List.length_take_of_le hj])

theorem GoodSlots.take {good : Nat → Word → Bool} {i : Nat} {ws : List Word} (h : GoodSlots good i ws) (j : Nat) :
    GoodSlots good i (ws.take j) := fun k hk => by
  rw [List.getElem_take]
  exact h k _

theorem Outstanding.length_header (o : Outstanding) : o.header.length = 24 := rfl

theorem Outstanding.frameBits_eq (o : Outstanding) (ws : List Word) :
    o.frameBits ws = o.header ++ (ws.flatMap slotBits ++ wordBits (crcOfBits (o.header ++ ws.flatMap slotBits))) :=
  List.append_assoc ..

theorem Outstanding.take_header (o : Outstanding) (ws : List Word) : (o.frameBits ws).take 24 = o.header := by
  rw [Outstanding.frameBits_eq]
  exact List.take_left' rfl

theorem Outstanding.header_of_agrees {o : Outstanding} {ws : List Word} {received : List Bool} {n : Nat} (hn : 24 ≤ n)
    (h : received.take n = (o.frameBits ws).take n) : received.take 24 = o.header := by
  have := congrArg (List.take 24) h
  rwa [List.take_take, List.take_take, Nat.min_eq_left hn, Outstanding.take_header] at this

theorem Outstanding.check_header {o : Outstanding} {received : List Bool} (h : received.take 24 ≠ o.header) :
    o.check received = .corrupt none :=
  if_pos (by rw [List.take_take]; exact h)

section Header

variable {o : Outstanding} {received : List Bool} (h : received.take 24 = o.header)

include h

theorem Outstanding.check_fault {v : LoopVerdict}
    (hslots : checkSlots o.slotGood 128 0 ((received.take 2216).drop 24) = .fault v) : o.check received = v := by
  have hheader : (received.take Config.loopFrameBits).take 24 = o.header := by rw [List.take_take]; exact h
  unfold Outstanding.check
  refine (if_neg (not_not.mpr hheader)).trans ?_
  rw [show Config.loopFrameBits = 2216 from rfl, hslots]

theorem Outstanding.check_passed {tail : List Bool}
    (hslots : checkSlots o.slotGood 128 0 ((received.take 2216).drop 24) = .passed tail) :
    o.check received = if tail = wordBits (crcOfBits (received.take 2200)) then .intact else .corrupt none := by
  have hheader : (received.take Config.loopFrameBits).take 24 = o.header := by rw [List.take_take]; exact h
  have hbody : (received.take 2216).take (2216 - 16) = received.take 2200 := List.take_take ..
  unfold Outstanding.check
  refine (if_neg (not_not.mpr hheader)).trans ?_
  rw [show Config.loopFrameBits = 2216 from rfl, hslots]
  dsimp only
  rw [hbody]

end Header

section Check

variable {o : Outstanding} {ws : List Word} (hws : ws.length = 128)

include hws

theorem Outstanding.length_frameBits : (o.frameBits ws).length = 2216 := by
  rw [Outstanding.frameBits_eq]
  simp [Outstanding.length_header, hws]

/-- The header and the first slots of a frame. -/
theorem Outstanding.take_frameBits {j : Nat} (hj : j ≤ 128) :
    (o.frameBits ws).take (24 + 17 * j) = o.header ++ (ws.take j).flatMap slotBits := by
  have hslots := length_flatMap_slotBits ws
  rw [Outstanding.frameBits_eq, ← o.length_header, List.take_length_add_append,
    List.take_append_of_le_length (by omega), take_flatMap_slotBits (by omega)]

/-- R141, R142: a received frame that agrees up to a slot is examined from this slot on, when the slots before it are good. -/
theorem Outstanding.checkSlots_reach {j : Nat} (hj : j ≤ 128) (good : GoodSlots o.slotGood 0 (ws.take j)) {received : List Bool}
    (h : received.take (24 + 17 * j) = (o.frameBits ws).take (24 + 17 * j)) :
    checkSlots o.slotGood 128 0 ((received.take 2216).drop 24) =
      checkSlots o.slotGood (128 - j) j ((received.take 2216).drop (24 + 17 * j)) := by
  have hagrees : (received.take 2216).take (24 + 17 * j) = o.header ++ (ws.take j).flatMap slotBits := by
    rw [List.take_take, Nat.min_eq_left (by omega), h, Outstanding.take_frameBits hws hj]
  have hwhole : received.take 2216 =
      o.header ++ ((ws.take j).flatMap slotBits ++ (received.take 2216).drop (24 + 17 * j)) := by
    rw [← List.append_assoc, ← hagrees, List.take_append_drop]
  have hsplit := (congrArg (List.drop 24) hwhole).trans (List.drop_left' rfl)
  have hlength : (ws.take j).length = j := List.length_take_of_le (by omega)
  have hslots := checkSlots_good good (128 - j) ((received.take 2216).drop (24 + 17 * j))
  rwa [hlength, Nat.sub_add_cancel hj, Nat.zero_add, ← hsplit] at hslots

/-- R140: with the header and the slots as sent, the CRC decides. -/
theorem Outstanding.check_body (good : GoodSlots o.slotGood 0 ws) {received : List Bool}
    (h : received.take 2200 = (o.frameBits ws).take 2200) :
    o.check received = if received.take 2216 = o.frameBits ws then .intact else .corrupt none := by
  have hall : ws.take 128 = ws := List.take_of_length_le hws.le
  have hbody : (received.take 2216).take 2200 = o.header ++ ws.flatMap slotBits := by
    have hframe := Outstanding.take_frameBits (o := o) hws (j := 128) le_rfl
    rw [hall] at hframe
    rw [List.take_take]
    exact h.trans hframe
  have hwhole : received.take 2216 = o.header ++ (ws.flatMap slotBits ++ (received.take 2216).drop 2200) := by
    rw [← List.append_assoc, ← hbody, List.take_append_drop]
  have hpassed := Outstanding.checkSlots_reach hws (j := 128) le_rfl (by rw [hall]; exact good) h
  have hcrc : received.take 2200 = o.header ++ ws.flatMap slotBits := by
    rw [← hbody, List.take_take, Nat.min_eq_left (by decide)]
  rw [Outstanding.check_passed (Outstanding.header_of_agrees (by decide) h) hpassed, hcrc]
  refine if_congr ?_ rfl rfl
  rw [hwhole, Outstanding.frameBits_eq, List.append_cancel_left_eq, List.append_cancel_left_eq, ← hwhole]

theorem Outstanding.check_intact (good : GoodSlots o.slotGood 0 ws) : o.check (o.frameBits ws) = .intact := by
  rw [Outstanding.check_body hws good rfl]
  exact if_pos (List.take_of_length_le (Outstanding.length_frameBits hws).le)

/-- R141, R142: a good frame cut off behind its header. -/
theorem Outstanding.check_cut (good : GoodSlots o.slotGood 0 ws) {k : Nat} (hlow : 24 ≤ k) (hhigh : k < 2216) :
    o.check ((o.frameBits ws).take k) = .corrupt none := by
  have hlength := Outstanding.length_frameBits (o := o) hws
  by_cases hcrc : 2200 ≤ k
  · rw [Outstanding.check_body hws good (by rw [List.take_take, Nat.min_eq_left hcrc])]
    refine if_neg fun heq => ?_
    have := congrArg List.length heq
    rw [List.length_take, List.length_take, hlength] at this
    omega
  · refine Outstanding.check_fault ?_ ?_
    · rw [List.take_take, Nat.min_eq_left hlow, Outstanding.take_header]
    · have hbits : (((o.frameBits ws).take k).take 2216).drop 24 =
          (ws.flatMap slotBits ++ wordBits (crcOfBits (o.header ++ ws.flatMap slotBits))).take (k - 24) := by
        rw [List.take_take, Nat.min_eq_right hhigh.le, List.drop_take, Outstanding.frameBits_eq]
        exact congrArg _ (List.drop_left' rfl)
      rw [hbits, ← hws]
      exact checkSlots_cut good _ (by omega)

/-- R136: the bits of a slot of the frame sent. -/
theorem Outstanding.slot_frameBits {j : Nat} (hj : j < 128) {v : Word} (hv : ws[j]? = some v) :
    ((o.frameBits ws).drop (24 + 17 * j)).take 17 = slotBits v := by
  have hfirst : (o.header ++ (ws.take j).flatMap slotBits).length = 24 + 17 * j := by
    rw [List.length_append, o.length_header, length_flatMap_slotBits, List.length_take_of_le (by omega)]
  rw [List.take_drop, show 24 + 17 * j + 17 = 24 + 17 * (j + 1) by omega, Outstanding.take_frameBits hws hj,
    List.take_add_one, hv, List.flatMap_append, ← List.append_assoc, ← hfirst]
  simp

section Slot

variable {j : Nat} (hj : j < 128) (good : GoodSlots o.slotGood 0 (ws.take j)) {received : List Bool}
  (h : received.take (24 + 17 * j) = (o.frameBits ws).take (24 + 17 * j)) (hlength : 24 + 17 * j + 17 ≤ received.length)

include hj good h hlength

/-- R141, R142: the check comes to this slot, whose 17 bits have been received. -/
theorem Outstanding.checkSlots_slot :
    ∃ bits : List Bool, checkSlots o.slotGood 128 0 ((received.take 2216).drop 24) = checkSlots o.slotGood (127 - j + 1) j bits ∧
      17 ≤ bits.length ∧ bits.take 17 = (received.drop (24 + 17 * j)).take 17 := by
  refine ⟨(received.take 2216).drop (24 + 17 * j), ?_, ?_, ?_⟩
  · rw [Outstanding.checkSlots_reach hws hj.le good h, show 127 - j + 1 = 128 - j by omega]
  · rw [List.length_drop, List.length_take]
    omega
  · rw [List.drop_take, List.take_take, Nat.min_eq_left (by omega)]

theorem Outstanding.check_parity (heven : ((received.drop (24 + 17 * j)).take 17).count true % 2 = 0) :
    o.check received = .parity j := by
  obtain ⟨bits, hslots, hbits, hslot⟩ := Outstanding.checkSlots_slot hws hj good h hlength
  have hparity : oddOnes (bits.take 17) = false := by
    rw [← Bool.not_eq_true, oddOnes_iff, hslot]
    omega
  exact Outstanding.check_fault (Outstanding.header_of_agrees (by omega) h)
    (hslots.trans (checkSlots_parity _ _ hbits hparity))

theorem Outstanding.check_value {v : Word} (hv : (received.drop (24 + 17 * j)).take 17 = slotBits v)
    (hbad : o.slotGood j v = false) : o.check received = .corrupt (some j) := by
  obtain ⟨bits, hslots, hbits, hslot⟩ := Outstanding.checkSlots_slot hws hj good h hlength
  have hvalue : wordOfBits (bits.take 16) = v := by
    rw [← wordOfBits_slotBits v, ← hv, ← hslot, List.take_take]
    rfl
  refine Outstanding.check_fault (Outstanding.header_of_agrees (by omega) h)
    (hslots.trans (checkSlots_value _ _ hbits ?_ ?_))
  · rw [hslot, hv, oddOnes_slotBits]
  · rw [hvalue, hbad]

end Slot

end Check

end Sys2Proof.Machine
end

section
/-! PROOFS. The returns of LEVEL frames (O51). -/

namespace Sys2Proof.Machine

/-! ### The circuit of a slot (R130) -/

theorem circuitAt_segmentOf {c : Circuit} {g : Segment} (h : segmentOf c = g) : circuitAt g (c.val % 128) = some c := by
  subst h
  have hplace : (segmentOf c).val * 128 + c.val % 128 = c.val := Nat.div_add_mod' c.val 128
  unfold circuitAt indexOf
  rw [if_pos (Nat.mod_lt _ (by decide)), hplace, dif_pos c.isLt]

/-! ### Returns that fail (R138, R144, R145, R147) -/

/-- R147: the feedback after a failed return: that of a LEVEL frame is reported. -/
def State.failureTold (o : Outstanding) (s : State) : FeedbackBlock :=
  match o.kind with
  | .level => (s.levelReport o.segment false).feedback
  | .status => s.feedback

/-- R147: what the Feedback Tracker is told does not depend on the loop block. -/
theorem State.told_withLoop (s : State) (l : LoopBlock) (o : Outstanding) (v : LoopVerdict) :
    (s.withLoop l).told o v = s.told o v := by
  unfold State.told
  cases o.kind with
  | level => exact State.levelReport_feedback_congr (s := s) (t := s.withLoop l) rfl rfl _ _
  | status => rfl

theorem State.told_failed (s : State) (o : Outstanding) {v : LoopVerdict} (h : v ≠ .intact) : s.told o v = s.failureTold o := by
  unfold State.told State.failureTold
  cases o.kind with
  | level => exact congrArg (fun intact => (s.levelReport o.segment intact).feedback) (beq_false_of_ne h)
  | status => rfl

section Return

variable {s : State} {o : Outstanding} {rest : List Outstanding} (ho : s.loop.outstanding = o :: rest)

include ho

/-- R138: the timeout of a frame that was sent whole. -/
theorem returnTimeout_opened (hended : o.ended = true) :
    ∃ t, exec .returnTimeout s = .next t ∧
      LoopFailure s t .opened o.segment none (min 3 (s.loop.openRun + 1)) rest
        (if 3 ≤ s.loop.openRun + 1 then 0x0001#16 else 0) (s.failureTold o) := by
  refine ⟨_, rfl, ?_⟩
  unfold State.returnTimeout
  rw [ho]
  dsimp only
  rw [if_pos hended, State.frameOutcome_eq, State.told_withLoop, State.told_failed _ _ (by decide)]
  rfl

/-- R138: the timeout of a frame still being sent does not run (log entry 5). -/
theorem returnTimeout_sending (hended : o.ended = false) : exec .returnTimeout s = .next s := by
  refine congrArg Host.Outcome.next ?_
  unfold State.returnTimeout
  rw [ho]
  dsimp only
  rw [if_neg (by rw [hended]; decide)]

variable (hp : s.part = .running)

include hp

theorem loopFrameReceived_taken (bits : List Bool) : exec (.loopFrameReceived bits) s = .next (s.takeReturn o rest bits) := by
  refine congrArg Host.Outcome.next ?_
  unfold State.loopFrameReceived
  rw [ho]
  exact if_pos hp

/-- A failed return is its outcome alone. -/
theorem loopFrameReceived_failed {bits : List Bool} {v : LoopVerdict} (hv : o.check bits = v) (hfailed : v ≠ .intact) :
    exec (.loopFrameReceived bits) s =
      .next { s with
        loop := { s.loop with outstanding := rest }.judged o.segment v
        mgmt := { s.mgmt with flags := s.mgmt.flags ||| s.loop.verdictFlags v }
        feedback := s.failureTold o } := by
  rw [loopFrameReceived_taken ho hp]
  unfold State.takeReturn
  rw [hv]
  dsimp only
  rw [if_neg fun h => hfailed h.2, State.frameOutcome_eq, State.told_withLoop, State.told_failed _ _ hfailed]
  cases v <;> rfl

theorem loopFrameReceived_corrupt {bits : List Bool} {slot : Option Nat} (hv : o.check bits = .corrupt slot) :
    ∃ t, exec (.loopFrameReceived bits) s = .next t ∧
      LoopFailure s t .corrupt o.segment (slot.bind (circuitAt o.segment)) 0 rest 0x0002#16 (s.failureTold o) :=
  ⟨_, loopFrameReceived_failed ho hp hv (by simp), rfl⟩

theorem loopFrameReceived_parity {bits : List Bool} {slot : Nat} (hv : o.check bits = .parity slot) :
    ∃ t, exec (.loopFrameReceived bits) s = .next t ∧
      LoopFailure s t .parity o.segment (circuitAt o.segment slot) 0 rest 0x0004#16 (s.failureTold o) :=
  ⟨_, loopFrameReceived_failed ho hp hv (by simp), rfl⟩

/-- R140: a header that differs or is cut short. -/
theorem loopFrameReceived_header {ws : List Word} {bits : List Bool} (h : bits.take 24 ≠ (o.frameBits ws).take 24) :
    ∃ t, exec (.loopFrameReceived bits) s = .next t ∧
      LoopFailure s t .corrupt o.segment none 0 rest 0x0002#16 (s.failureTold o) :=
  loopFrameReceived_corrupt ho hp (Outstanding.check_header (by rwa [Outstanding.take_header] at h))

section Good

variable {ws : List Word} (hws : ws.length = 128) (good : GoodSlots o.slotGood 0 ws)

include hws good

/-- R141, R142: a good frame that is cut off behind its header. -/
theorem loopFrameReceived_cut {k : Nat} (hlow : 24 ≤ k) (hhigh : k < 2216) :
    ∃ t, exec (.loopFrameReceived ((o.frameBits ws).take k)) s = .next t ∧
      LoopFailure s t .corrupt o.segment none 0 rest 0x0002#16 (s.failureTold o) :=
  loopFrameReceived_corrupt ho hp (Outstanding.check_cut hws good hlow hhigh)

/-- R141, R142: a full frame that is good but for its CRC. -/
theorem loopFrameReceived_crc {bits : List Bool} (hbody : bits.take 2200 = (o.frameBits ws).take 2200)
    (hcrc : bits.take 2216 ≠ o.frameBits ws) :
    ∃ t, exec (.loopFrameReceived bits) s = .next t ∧
      LoopFailure s t .corrupt o.segment none 0 rest 0x0002#16 (s.failureTold o) :=
  loopFrameReceived_corrupt ho hp ((Outstanding.check_body hws good hbody).trans (if_neg hcrc))

end Good

section Slot

variable {ws : List Word} (hws : ws.length = 128) {c : Circuit} (hc : segmentOf c = o.segment)
  (good : GoodSlots o.slotGood 0 (ws.take (c.val % 128))) {bits : List Bool}
  (h : bits.take (24 + 17 * (c.val % 128)) = (o.frameBits ws).take (24 + 17 * (c.val % 128)))
  (hlength : 24 + 17 * (c.val % 128) + 17 ≤ bits.length)

include hws hc good h hlength

/-- R141, R142: an even number of ones in a slot behind good ones. -/
theorem loopFrameReceived_slotParity (heven : ((bits.drop (24 + 17 * (c.val % 128))).take 17).count true % 2 = 0) :
    ∃ t, exec (.loopFrameReceived bits) s = .next t ∧
      LoopFailure s t .parity o.segment (some c) 0 rest 0x0004#16 (s.failureTold o) := by
  have hcheck := Outstanding.check_parity hws (Nat.mod_lt _ (by decide)) good h hlength heven
  have hfailed := loopFrameReceived_parity ho hp hcheck
  rwa [circuitAt_segmentOf hc] at hfailed

/-- R141, R142: a slot behind good ones with its parity and a value that is not good. -/
theorem loopFrameReceived_slotValue {v : Word} (hv : (bits.drop (24 + 17 * (c.val % 128))).take 17 = slotBits v)
    (hbad : o.slotGood (c.val % 128) v = false) :
    ∃ t, exec (.loopFrameReceived bits) s = .next t ∧
      LoopFailure s t .corrupt o.segment (some c) 0 rest 0x0002#16 (s.failureTold o) := by
  have hcheck := Outstanding.check_value hws (Nat.mod_lt _ (by decide)) good h hlength hv hbad
  have hfailed := loopFrameReceived_corrupt ho hp hcheck
  rwa [Option.bind_some, circuitAt_segmentOf hc] at hfailed

end Slot

end Return

/-! ### LEVEL frames (R141) -/

/-- R141: the codes sent are the good values of a LEVEL frame. -/
theorem Outstanding.goodSlots_level {o : Outstanding} (hkind : o.kind = .level) : GoodSlots o.slotGood 0 o.sent := fun j hj => by
  unfold Outstanding.slotGood
  rw [hkind, Nat.zero_add]
  simp [hj]

/-- R144: an intact return clears the counts, and leaves the fault record and the flags. -/
theorem State.frameOutcome_intact (s : State) (o : Outstanding) (rest : List Outstanding) :
    State.frameOutcome o .intact (s.withLoop { s.loop with outstanding := rest }) =
      { s with
        loop := { s.loop with outstanding := rest, failures := 0, openRun := 0 }
        feedback := s.told o .intact } := by
  have hflags : s.mgmt.flags ||| (0 : Word) = s.mgmt.flags := BitVec.or_zero
  rw [State.frameOutcome_eq, State.told_withLoop]
  show { s with loop := _, mgmt := { s.mgmt with flags := s.mgmt.flags ||| (0 : Word) }, feedback := _ } = _
  rw [hflags]
  rfl

/-- R144, R147: an intact LEVEL return is reported. -/
theorem loopFrameReceived_level {s : State} {o : Outstanding} {rest : List Outstanding} (hp : s.part = .running)
    (ho : s.loop.outstanding = o :: rest) (hkind : o.kind = .level) (hsent : o.sent.length = 128) :
    exec (.loopFrameReceived (o.frameBits o.sent)) s =
      .next { s with
        loop := { s.loop with outstanding := rest, failures := 0, openRun := 0 }
        feedback := (s.levelReport o.segment true).feedback } := by
  have htold : s.told o .intact = (s.levelReport o.segment true).feedback := by
    unfold State.told
    rw [hkind]
    rfl
  rw [loopFrameReceived_taken ho hp]
  unfold State.takeReturn
  rw [Outstanding.check_intact hsent (Outstanding.goodSlots_level hkind)]
  dsimp only
  rw [if_neg (by rw [hkind]; decide), State.frameOutcome_intact, htold]

/-- Settles O51: `Outstanding.check` judges the return by the frame sent; a failure is its outcome alone, and is reported. -/
theorem loopReturnsAreJudged : Obligations.LoopReturnsAreJudged := by
  refine ⟨fun s ho => ?_, fun s o rest hp ho hkind hsent => ?_⟩
  · constructor
    · refine congrArg Host.Outcome.next ?_
      unfold State.returnTimeout
      rw [ho]
    · refine fun bits => congrArg Host.Outcome.next ?_
      unfold State.loopFrameReceived
      rw [ho]
  · obtain ⟨kind, g, seq, codes, ended⟩ := o
    obtain rfl : kind = .level := hkind
    have good := Outstanding.goodSlots_level (o := ⟨.level, g, seq, codes, ended⟩) rfl
    intro sent failed
    have hbits : sent = Outstanding.frameBits ⟨.level, g, seq, codes, ended⟩ codes := rfl
    have htold : failed = s.failureTold ⟨.level, g, seq, codes, ended⟩ := rfl
    rw [hbits, htold]
    refine ⟨returnTimeout_sending ho, returnTimeout_opened ho, loopFrameReceived_level hp ho rfl hsent,
      fun bits h => loopFrameReceived_header ho hp h, fun k hlow hhigh => loopFrameReceived_cut ho hp hsent good hlow hhigh,
      fun bits hbody hcrc => loopFrameReceived_crc ho hp hsent good hbody hcrc, ?_⟩
    intro bits c hc place hagrees hlength
    refine ⟨fun heven => loopFrameReceived_slotParity ho hp hsent hc (good.take _) hagrees hlength heven,
      fun hodd hdiffers => ?_⟩
    have hbits : ((bits.drop place).take 17).length = 17 := by
      rw [List.length_take, List.length_drop]
      omega
    have hslot := eq_slotBits hbits ((oddOnes_iff _).mpr hodd)
    refine loopFrameReceived_slotValue ho hp hsent hc (good.take _) hagrees hlength hslot ?_
    refine Bool.eq_false_iff.mpr fun hgood => hdiffers (hslot.trans ?_)
    exact (Outstanding.slot_frameBits hsent (Nat.mod_lt _ (by decide)) (eq_of_beq hgood)).symm

end Sys2Proof.Machine
end

section
/-! PROOFS. The returns of STATUS frames (O52). -/

namespace Sys2Proof.Machine

/-! ### Flags (R187) -/

theorem Flag.index_injective {f g : Flag} (h : f.index = g.index) : f = g := by
  have hindex : ∀ x : Flag, x.index = x.ctorIdx := fun x => by cases x <;> rfl
  rw [← Flag.ofNat_ctorIdx f, ← hindex, h, hindex, Flag.ofNat_ctorIdx]

theorem Flag.index_lt (f : Flag) : f.index < 16 := by cases f <;> decide

/-- R187, R194: the flag word that holds one flag has one bit. -/
theorem Flag.getLsbD_word (f : Flag) (i : Nat) : f.word.getLsbD i = decide (f.index = i) := by
  refine (BitVec.getLsbD_twoPow f.index i).trans ?_
  rw [decide_eq_true f.index_lt, Bool.true_and]

/-- R194: a flag is set when its bit is. -/
theorem State.flagSet_iff (s : State) (f : Flag) : s.flagSet f = true ↔ s.mgmt.flags.getLsbD f.index = true := by
  unfold State.flagSet
  rw [bne_iff_ne]
  constructor
  · intro hne
    by_contra hbit
    refine hne (BitVec.eq_of_getLsbD_eq fun i _ => ?_)
    rw [BitVec.getLsbD_and, f.getLsbD_word]
    by_cases hi : f.index = i
    · rw [← hi, Bool.eq_false_iff.mpr hbit]
      simp
    · simp [hi]
  · intro hbit hzero
    have := congrArg (fun w => BitVec.getLsbD w f.index) hzero
    simp [f.getLsbD_word, hbit] at this

theorem State.flagSet_reportIf (s : State) (b : Bool) (f g : Flag) :
    (s.reportIf b f).flagSet g = true ↔ s.flagSet g = true ∨ (g = f ∧ b = true) := by
  cases b with
  | false => simp [State.reportIf]
  | true =>
    have hword : f.word.getLsbD g.index = true ↔ g = f := by
      rw [f.getLsbD_word, decide_eq_true_iff]
      exact ⟨fun h => (Flag.index_injective h).symm, fun h => by rw [h]⟩
    rw [State.flagSet_iff, State.flagSet_iff, ← hword]
    simp [State.reportIf, BitVec.getLsbD_or]

/-! ### The status of a segment (R146) -/

theorem anyInSegment_iff (g : Segment) (test : Circuit → Bool) :
    anyInSegment g test = true ↔ ∃ c : Circuit, segmentOf c = g ∧ test c = true := by
  unfold anyInSegment
  simp

theorem RackStatus.rackFault_iff (r : RackStatus) :
    r.rackFault = true ↔ r = .overtemp ∨ r = .breakerOpen ∨ r = .dimmerFault := by
  cases r <;> simp [RackStatus.rackFault]

/-- Table 7-3: a value of at most 5 is the code of a status. -/
theorem code_rackStatusOf {n : Nat} (h : n ≤ 5) : ((rackStatusOf n).getD .notPresent).code = n := by
  interval_cases n <;> rfl

theorem code_slotStatus {values : List Word} {c : Circuit} (hlength : values.length = 128)
    (hvalues : ∀ v ∈ values, v.toNat ≤ 5) :
    (values[c.val % 128]?).map BitVec.toNat = some (slotStatus values c).code := by
  have hlt : c.val % 128 < values.length := by
    rw [hlength]
    exact Nat.mod_lt _ (by decide)
  unfold slotStatus
  rw [List.getElem?_eq_getElem hlt, Option.map_some, Option.bind_some, code_rackStatusOf (hvalues _ (List.getElem_mem hlt))]

/-- R146: the statuses that a good STATUS return gives are those that it writes. -/
theorem State.exists_writeStatus (s : State) (g : Segment) (values : List Word) (P : Circuit → RackStatus → Prop) :
    (∃ c : Circuit, segmentOf c = g ∧ P c (slotStatus values c)) ↔
      ∃ c : Circuit, segmentOf c = g ∧ P c ((s.writeStatus g values).loop.status[c]) :=
  exists_congr fun c => and_congr_right fun hc => by rw [State.writeStatus_status, if_pos hc]

/-- R146: the flags that a good STATUS return reports. -/
theorem State.writeStatus_flagSet (s : State) (g : Segment) (values : List Word) (f : Flag) :
    let t := s.writeStatus g values
    t.flagSet f = true ↔
      s.flagSet f = true ∨
      (f = .lampFault ∧ ∃ c : Circuit, segmentOf c = g ∧ t.loop.status[c] = .noLoad) ∨
      (f = .rackFault ∧ ∃ c : Circuit, segmentOf c = g ∧
        (t.loop.status[c] = .overtemp ∨ t.loop.status[c] = .breakerOpen ∨ t.loop.status[c] = .dimmerFault)) ∨
      (f = .egressFault ∧ ∃ c : Circuit, segmentOf c = g ∧ (s.eng c).attr.egress = true ∧ t.loop.status[c] ≠ .ok) := by
  have reported : (s.writeStatus g values).flagSet f = true ↔
      s.flagSet f = true ∨
      (f = .lampFault ∧ ∃ c : Circuit, segmentOf c = g ∧ slotStatus values c = .noLoad) ∨
      (f = .rackFault ∧ ∃ c : Circuit, segmentOf c = g ∧
        (slotStatus values c = .overtemp ∨ slotStatus values c = .breakerOpen ∨ slotStatus values c = .dimmerFault)) ∨
      (f = .egressFault ∧ ∃ c : Circuit, segmentOf c = g ∧ (s.eng c).attr.egress = true ∧ slotStatus values c ≠ .ok) := by
    unfold State.writeStatus
    dsimp only
    rw [State.flagSet_reportIf, State.flagSet_reportIf, State.flagSet_reportIf]
    simp only [anyInSegment_iff, RackStatus.rackFault_iff, Bool.and_eq_true, beq_iff_eq, bne_iff_ne, or_assoc]
    rfl
  have written := s.exists_writeStatus g values
  exact reported.trans (or_congr_right (or_congr (and_congr_right fun _ => written fun _ r => r = .noLoad)
    (or_congr (and_congr_right fun _ => written fun _ r => r = .overtemp ∨ r = .breakerOpen ∨ r = .dimmerFault)
      (and_congr_right fun _ => written fun c r => (s.eng c).attr.egress = true ∧ r ≠ .ok))))

/-! ### Good and bad values (R142) -/

theorem Outstanding.slotGood_status {o : Outstanding} (hkind : o.kind = .status) (i : Nat) (v : Word) :
    o.slotGood i v = decide (v.toNat ≤ 5) := by
  unfold Outstanding.slotGood
  rw [hkind]

theorem Outstanding.goodSlots_status {o : Outstanding} (hkind : o.kind = .status) {ws : List Word}
    (h : ∀ v ∈ ws, v.toNat ≤ 5) : GoodSlots o.slotGood 0 ws := fun j hj => by
  rw [Outstanding.slotGood_status hkind]
  exact decide_eq_true (h _ (List.getElem_mem hj))

/-- R142, R144: a good STATUS return clears the counts and is written. -/
theorem loopFrameReceived_status {s : State} {o : Outstanding} {rest : List Outstanding} {values : List Word}
    (hp : s.part = .running) (ho : s.loop.outstanding = o :: rest) (hkind : o.kind = .status) (hlength : values.length = 128)
    (good : GoodSlots o.slotGood 0 values) :
    exec (.loopFrameReceived (o.frameBits values)) s =
      .next (State.writeStatus o.segment values
        { s with loop := { s.loop with outstanding := rest, failures := 0, openRun := 0 } }) := by
  have hvalues : slotValues 128 ((o.frameBits values).drop 24) = values := by
    rw [Outstanding.frameBits_eq, List.drop_left' o.length_header, ← hlength]
    exact slotValues_flatMap _ _
  have htold : s.told o .intact = s.feedback := by
    unfold State.told
    rw [hkind]
  rw [loopFrameReceived_taken ho hp]
  unfold State.takeReturn
  rw [Outstanding.check_intact hlength good]
  dsimp only
  rw [if_pos ⟨hkind, rfl⟩, State.frameOutcome_intact, htold, hvalues]

/-- Settles O52: `Outstanding.check` judges the return by its parities, its values and its CRC; a good one is written by
`State.writeStatus`, a failure is its outcome alone. -/
theorem statusReturnsAreWritten : Obligations.StatusReturnsAreWritten := by
  intro s o rest values hp ho hkind hlength bits
  obtain ⟨kind, g, seq, codes, ended⟩ := o
  obtain rfl : kind = .status := hkind
  have hbits : bits = Outstanding.frameBits ⟨.status, g, seq, codes, ended⟩ values := rfl
  have good {ws : List Word} := Outstanding.goodSlots_status (o := ⟨.status, g, seq, codes, ended⟩) rfl (ws := ws)
  rw [hbits]
  refine ⟨fun hvalues => ?written, returnTimeout_sending ho, returnTimeout_opened ho,
    fun received h => loopFrameReceived_header ho hp h,
    fun hvalues => ⟨fun k hlow hhigh => loopFrameReceived_cut ho hp hlength (good hvalues) hlow hhigh,
      fun received hbody hcrc => loopFrameReceived_crc ho hp hlength (good hvalues) hbody hcrc⟩,
    fun c hc hbefore => ⟨fun hvalue => ?above, fun received hagrees hreceived =>
      ⟨fun heven => loopFrameReceived_slotParity ho hp hlength hc (good hbefore) hagrees hreceived heven,
        fun v hv hslot => loopFrameReceived_slotValue ho hp hlength hc (good hbefore) hagrees hreceived hslot ?_⟩⟩⟩
  case written =>
    refine ⟨_, loopFrameReceived_status hp ho rfl hlength (good hvalues), ?_⟩
    refine ⟨fun c hc => ?_, fun c hc => ?_, fun f => ?_, State.writeStatus_frame _ _ _⟩
    · rw [State.writeStatus_status, if_neg hc]
    · rw [State.writeStatus_status, if_pos hc]
      exact code_slotStatus hlength hvalues
    · exact State.writeStatus_flagSet _ _ _ _
  case above =>
    have hplace : c.val % 128 < 128 := Nat.mod_lt _ (by decide)
    have hsent := List.getElem?_eq_getElem (hlength ▸ hplace : c.val % 128 < values.length)
    refine loopFrameReceived_slotValue ho hp hlength hc (good hbefore) rfl ?_ (Outstanding.slot_frameBits hlength hplace hsent) ?_
    · rw [Outstanding.length_frameBits hlength]
      omega
    · rw [Outstanding.slotGood_status rfl]
      exact decide_eq_false (Nat.not_le.mpr (hvalue _ hsent))
  · rw [Outstanding.slotGood_status rfl]
    exact decide_eq_false (Nat.not_le.mpr hv)

end Sys2Proof.Machine
end

section
/-! PROOFS. Indicator codes and the POLL that carries them (O54). -/

namespace Sys2Proof.Machine

/-! ### Outcomes (R154) -/

theorem State.outcome_unheard {s : State} {st k : Nat} (ack : Bool) (h : s.hears st k = false) : s.outcome st k ack = s := by
  rcases s.outcome_cases st k ack with ⟨-, hsame⟩ | ⟨hheard, -⟩
  · exact hsame
  · exact absurd (h.symm.trans hheard) (by decide)

/-! ### The governing window (R153) -/

theorem State.governing_eq_some_iff (s : State) (st k : Nat) (i : WindowIndex) :
    s.governing st k = some i ↔
      (s.window i).covers st k = true ∧ ∀ j < i, (s.window j).covers st k = false := by
  unfold State.governing
  rw [List.find?_eq_some_iff_getElem]
  constructor
  · rintro ⟨hcovers, n, hn, hget, hbefore⟩
    obtain rfl : n = i.val := by simpa using congrArg Fin.val hget
    exact ⟨hcovers, fun j hj => by simpa using hbefore j.val hj⟩
  · rintro ⟨hcovers, hbefore⟩
    refine ⟨hcovers, i.val, by simp, by simp, fun n hn => ?_⟩
    simpa using hbefore ⟨n, hn.trans i.isLt⟩ hn

/-! ### The cases of R152 -/

theorem State.waits_iff (s : State) (st k : Nat) :
    s.waits st k = true ↔
      (∃ p ∈ s.cues.pendings ++ s.takenRecords, p.station = st ∧ p.control = k) ∨
        ∃ r ∈ s.feedback.confirmations, r.station = st ∧ r.control = k := by
  unfold State.waits
  dsimp only
  rw [← List.any_append, Bool.or_eq_true, List.any_eq_true, List.any_eq_true]
  simp only [Bool.and_eq_true, beq_iff_eq]

theorem State.ownsClaim_iff (s : State) (st k : Nat) :
    s.ownsClaim st k = true ↔ ∃ c : Circuit, ∃ cl ∈ (s.circ c).claims, cl.owner = .station st k := by
  simp [State.ownsClaim]

/-- R152, cases 3 and 4: the action of a governing window puts its controls ON. -/
theorem State.governsInForce_of_governing {s : State} {st k : Nat} {i : WindowIndex} (h : s.governing st k = some i) :
    s.governsInForce st k = true ↔
      (∃ n, (s.window i).action = .scene n ∧ s.player.active = some n) ∨
        ((∃ op, (s.window i).action = .mode op) ∧ s.cues.mode = .performance) := by
  unfold State.governsInForce
  rw [h]
  dsimp only
  cases (s.window i).action <;> simp

theorem State.governsInForce_iff (s : State) (st k : Nat) :
    s.governsInForce st k = true ↔
      ∃ i : WindowIndex, (s.window i).covers st k = true ∧ (∀ j < i, (s.window j).covers st k = false) ∧
        ((∃ n, (s.window i).action = .scene n ∧ s.player.active = some n) ∨
          ((∃ op, (s.window i).action = .mode op) ∧ s.cues.mode = .performance)) := by
  simp only [← and_assoc, ← State.governing_eq_some_iff]
  constructor
  · intro h
    cases hgov : s.governing st k with
    | none => simp [State.governsInForce, hgov] at h
    | some i => exact ⟨i, rfl, (State.governsInForce_of_governing hgov).mp h⟩
  · rintro ⟨i, hgov, hforce⟩
    exact (State.governsInForce_of_governing hgov).mpr hforce

/-! ### Steady codes (R152) -/

section Steady

variable {s : State} {st k : Nat}

theorem State.steadyCode_wait (h : s.waits st k = true) : s.steadyCode st k = .wait := if_pos h

theorem State.steadyCode_on (hwait : ¬s.waits st k = true) (h : s.ownsClaim st k = true ∨ s.governsInForce st k = true) :
    s.steadyCode st k = .on := by
  unfold State.steadyCode
  rw [if_neg hwait]
  by_cases hown : s.ownsClaim st k = true
  · exact if_pos hown
  · rw [if_neg hown, if_pos (h.resolve_left hown)]

theorem State.steadyCode_off (hwait : ¬s.waits st k = true) (h : ¬(s.ownsClaim st k = true ∨ s.governsInForce st k = true)) :
    s.steadyCode st k = .off := by
  obtain ⟨hown, hforce⟩ := not_or.mp h
  unfold State.steadyCode
  rw [if_neg hwait, if_neg hown, if_neg hforce]

/-! ### The code of a control in a POLL (R151) -/

theorem State.pollCode_of_ack (h : s.shotOf st k = some true) : s.pollCode st k = .ack := by
  obtain ⟨o, ho, hack⟩ := Option.map_eq_some_iff.mp h
  unfold State.pollCode
  rw [ho]
  exact if_pos hack

theorem State.pollCode_of_none (h : s.shotOf st k = none) : s.pollCode st k = s.steadyCode st k := by
  unfold State.pollCode
  rw [Option.map_eq_none_iff.mp h]

end Steady

theorem State.getElem?_pollCodes (s : State) (n : Nat) {k controls : Nat} (h : k < controls) :
    (s.pollCodes n controls)[k]? = some (s.pollCode n k) := by
  unfold State.pollCodes
  rw [List.getElem?_map, List.getElem?_range h]
  rfl

/-! ### The visit of an entry (R5, R151) -/

theorem State.shotOf_visitEntry (s : State) (e : RosterEntry) (st k : Nat) :
    (s.visitEntry e).shotOf st k = if st = e.station ∧ k < e.controls then none else s.shotOf st k :=
  s.shotOf_takeShots e.station e.controls st k

/-- A visit writes the line and the one-shots, and no steady code reads those. -/
theorem State.steadyCode_visitEntry (s : State) (e : RosterEntry) (st k : Nat) :
    (s.visitEntry e).steadyCode st k = s.steadyCode st k := rfl

/-! ### The whole of R150 to R154 -/

/-- Settles O54: `State.pollCode` is the one-shot or else `State.steadyCode`, whose tests are the cases of R152; a visit reads it and
empties the one-shots it read. -/
theorem indicatorCodesFollowTheState : Obligations.IndicatorCodesFollowTheState := by
  refine ⟨fun s st k => ⟨fun ack => State.outcome_unheard ack, fun ack hheard => ?outcome, State.pollCode_of_ack,
    State.pollCode_of_shot, fun hnone => ?steady⟩, fun s e => ?visit⟩
  case outcome =>
    exact ⟨State.shotOf_outcome_self ack hheard, fun _ _ hother => State.shotOf_outcome_other s ack hother,
      s.outcome_shots st k ack⟩
  case steady =>
    rw [State.pollCode_of_none hnone]
    dsimp only
    rw [← State.waits_iff, ← State.ownsClaim_iff, ← State.governsInForce_iff]
    exact ⟨State.steadyCode_wait, State.steadyCode_on, State.steadyCode_off⟩
  case visit =>
    refine ⟨⟨_, rfl, rfl, rfl, s.pollCodes_length _ _, fun k hk => s.getElem?_pollCodes e.station hk⟩,
      s.shotOf_visitEntry e, s.steadyCode_visitEntry e, fun k hk => ?_, rfl⟩
    have hempty : (s.visitEntry e).shotOf e.station k = none := (s.shotOf_visitEntry e _ _).trans (if_pos ⟨rfl, hk⟩)
    rw [State.pollCode_of_none hempty, s.steadyCode_visitEntry]

end Sys2Proof.Machine
end

section
/-! PROOFS. What the safety events leave as it was (O27). -/

namespace Sys2Proof.Machine

/-! ### The frame of a safety event (R169) -/

/-- R169: what a safety event leaves: it may change slots, merges, publications, the EGRESS state, the declaration and the flags. -/
structure SafetyFrame (s t : State) : Prop where
  claims : ∀ c : Circuit, (t.circ c).claims = (s.circ c).claims
  entry : ∀ c : Circuit, (t.circ c).entry = (s.circ c).entry
  poolFree : t.claims.poolFree = s.claims.poolFree
  order : t.claims.order = s.claims.order
  openSet : t.claims.openSet = s.claims.openSet
  cues : t.cues = s.cues
  player : t.player = s.player
  masters : t.engine.masters = s.engine.masters
  feedback : t.feedback = s.feedback
  route : t.route = s.route
  loop : t.loop = s.loop
  store : t.store = s.store

namespace SafetyFrame

theorem refl (s : State) : SafetyFrame s s where
  claims _ := rfl
  entry _ := rfl
  poolFree := rfl
  order := rfl
  openSet := rfl
  cues := rfl
  player := rfl
  masters := rfl
  feedback := rfl
  route := rfl
  loop := rfl
  store := rfl

theorem trans {s t u : State} (h : SafetyFrame s t) (h' : SafetyFrame t u) : SafetyFrame s u where
  claims c := (h'.claims c).trans (h.claims c)
  entry c := (h'.entry c).trans (h.entry c)
  poolFree := h'.poolFree.trans h.poolFree
  order := h'.order.trans h.order
  openSet := h'.openSet.trans h.openSet
  cues := h'.cues.trans h.cues
  player := h'.player.trans h.player
  masters := h'.masters.trans h.masters
  feedback := h'.feedback.trans h.feedback
  route := h'.route.trans h.route
  loop := h'.loop.trans h.loop
  store := h'.store.trans h.store

end SafetyFrame

/-! ### The parts of an event -/

theorem ClaimCircuit.setSlot_entry (k : Slot) (content : Option Nat) (t : ClaimCircuit) :
    (t.setSlot k content).entry = t.entry := by cases k <;> rfl

/-- R69: a safety write opens no change set and enters no circuit. -/
theorem State.safetyWrite_entry (s : State) (k : Slot) (w : Circuit → Option (Option Nat)) (fade : Nat) (c : Circuit) :
    ((s.safetyWrite k w fade).circ c).entry = (s.circ c).entry := by
  cases h : w c with
  | none => rw [(s.safetyWrite_unnamed k fade h).1]
  | some content => rw [(s.safetyWrite_named k fade h rfl).1]; exact ClaimCircuit.setSlot_entry _ _ _

namespace SafetyFrame

/-- R69: a safety write is local to the circuits (`State.safetyWrite_eq`), and there it leaves claims and entries. -/
theorem safetyWrite (s : State) (k : Slot) (w : Circuit → Option (Option Nat)) (fade : Nat) :
    SafetyFrame s (s.safetyWrite k w fade) :=
  { refl s with claims := s.safetyWrite_claims k w fade, entry := s.safetyWrite_entry k w fade }

theorem setEgress (s : State) (b : Bool) : SafetyFrame s (s.setEgress b) := { refl s with }

/-- R18: the declaration and its flag, before the LOSS slots are written. -/
theorem lineLost (s : State) :
    SafetyFrame s (State.report .lineLost { s with line := { s.line with lossDeclared := true, lossTimer := none } }) :=
  { refl s with }

/-! ### The events (R162 to R164) -/

theorem egressAssertion (s : State) : SafetyFrame s s.egressAssertion := by
  unfold State.egressAssertion
  split
  · exact (setEgress s true).trans (.safetyWrite _ _ _ _)
  · exact refl s

theorem egressRelease (s : State) : SafetyFrame s s.egressRelease := by
  unfold State.egressRelease
  split
  · exact (setEgress s false).trans (.safetyWrite _ _ _ _)
  · exact refl s

theorem lineLossTimerExpiry (s : State) : SafetyFrame s s.lineLossTimerExpiry := by
  unfold State.lineLossTimerExpiry
  split
  · exact (lineLost s).trans (.safetyWrite _ _ _ _)
  · exact refl s

/-! ### Steady codes (R152) -/

section Steady

variable {s t : State} (h : SafetyFrame s t) (st k : Nat)
include h

theorem waits : t.waits st k = s.waits st k := by
  have htaken : t.takenRecords = s.takenRecords := by
    unfold State.takenRecords
    rw [h.order, h.openSet]
  unfold State.waits
  rw [h.cues, htaken, h.feedback]

theorem ownsClaim : t.ownsClaim st k = s.ownsClaim st k := by
  unfold State.ownsClaim
  simp only [h.claims]

theorem governsInForce : t.governsInForce st k = s.governsInForce st k := by
  unfold State.governsInForce State.governing State.window
  rw [h.route, h.player, h.cues]

/-- R152: a steady code reads the claims, the records, the windows, the active scene and the mode, and no slot. -/
theorem steadyCode : t.steadyCode st k = s.steadyCode st k := by
  unfold State.steadyCode
  rw [h.waits, h.ownsClaim, h.governsInForce]

end Steady

end SafetyFrame

/-! ### The whole of R169 -/

theorem exec_safetyEvent_frame (s : State) {c : Instr}
    (hc : c = .egressAssertion ∨ c = .egressRelease ∨ c = .lineLossTimerExpiry) :
    ∃ t, exec c s = .next t ∧ SafetyFrame s t := by
  rcases hc with rfl | rfl | rfl
  · exact ⟨_, rfl, .egressAssertion s⟩
  · exact ⟨_, rfl, .egressRelease s⟩
  · exact ⟨_, rfl, .lineLossTimerExpiry s⟩

/-- Settles O27: each event is at most a change of the EGRESS state or of the declaration and one safety write, and both leave the
frame, from which every steady code is read. -/
theorem safetyEventsLeaveTheClaims : Obligations.SafetyEventsLeaveTheClaims := by
  intro s c hc
  obtain ⟨t, hexec, hframe⟩ := exec_safetyEvent_frame s hc
  exact ⟨t, hexec, fun k => ⟨hframe.claims k, hframe.entry k⟩, hframe.poolFree, hframe.order, hframe.openSet, hframe.cues,
    hframe.player, hframe.masters, hframe.feedback, hframe.route, hframe.loop, hframe.store, hframe.steadyCode⟩

end Sys2Proof.Machine
end

section
/-! SUPPORT. What a SAVE reads of a state, and the operations that leave it as it was. -/

namespace Sys2Proof.Machine

/-! ### What a SAVE reads -/

/-- R1: a roster entry as loading gives it back: its live state begins afresh. -/
def RosterEntry.asLoaded (e : RosterEntry) : RosterEntry := .loaded e.station e.controls e.privilege

/-- The tables as loading gives them back. -/
def Tables.asLoaded (T : Tables) : Tables := { T with roster := T.roster.map RosterEntry.asLoaded }

/-- R1, R196: no live state of the roster enters the image. -/
theorem Tables.content_asLoaded (T : Tables) (n : SectionNo) : T.asLoaded.content n = T.content n := by
  have hroster : T.asLoaded.content 1 = T.content 1 := by
    show byteOf (T.roster.map RosterEntry.asLoaded).length :: (T.roster.map RosterEntry.asLoaded).flatMap RosterEntry.bytes = _
    rw [List.length_map, List.flatMap_map]
    rfl
  match n with
  | 0 | 2 | 3 | 4 | 5 => rfl
  | 1 => exact hroster

/-- What a step of a BUSY store must leave as it was: that it is BUSY, and the tables apart from the live states of the roster. -/
structure SavedView where
  busy : Bool
  tables : Tables

/-- Whether the store of a state is BUSY, and what a SAVE writes of its tables. -/
def State.saved (s : State) : SavedView where
  busy := s.storeBusy
  tables := s.tables.asLoaded

theorem State.storeBusy_iff (s : State) : s.storeBusy = true ↔ s.store.state ≠ .idle := bne_iff_ne

theorem State.not_storeBusy {s : State} (h : s.store.state = .idle) : ¬s.storeBusy = true := fun hbusy =>
  (State.storeBusy_iff s).mp hbusy h

/-- Two states agree in what a SAVE reads when the blocks agree from which it is read. -/
theorem State.saved_congr {s t : State} (hstore : t.store.state = s.store.state) (hsettings : t.mgmt.settings = s.mgmt.settings)
    (hroster : t.line.roster.map RosterEntry.asLoaded = s.line.roster.map RosterEntry.asLoaded)
    (hwindows : t.route.windows = s.route.windows) (hgroups : t.route.groups = s.route.groups)
    (hscenes : t.player.scenes = s.player.scenes) (hattrs : ∀ c : Circuit, (t.eng c).attr = (s.eng c).attr) :
    t.saved = s.saved := by
  have hmap : t.tables.attrs = s.tables.attrs := table_ext fun c =>
    (getElem_mapTable _ _ c).trans ((hattrs c).trans (getElem_mapTable (fun _ e => e.attr) s.engine.circuits c).symm)
  have hroster' : t.tables.roster.map RosterEntry.asLoaded = s.tables.roster.map RosterEntry.asLoaded := hroster
  have htables : t.tables.asLoaded = s.tables.asLoaded := by
    unfold Tables.asLoaded
    rw [hmap, hroster']
    simp only [State.tables, hsettings, hwindows, hgroups, hscenes]
  unfold State.saved State.storeBusy
  rw [hstore, htables]

theorem State.storeBusy_of_saved {s t : State} (h : t.saved = s.saved) : t.storeBusy = s.storeBusy :=
  congrArg SavedView.busy h

/-- R176: states that agree in the tables apart from live states have the same content of every section. -/
theorem State.content_of_savedTables {s t : State} (h : t.saved.tables = s.saved.tables) (n : SectionNo) :
    t.tables.content n = s.tables.content n := by
  rw [← Tables.content_asLoaded, ← s.tables.content_asLoaded]
  exact congrArg (fun T => T.content n) h

/-! ### Changes of other blocks -/

@[simp] theorem State.saved_withLoop (s : State) (l : LoopBlock) : (s.withLoop l).saved = s.saved := rfl
@[simp] theorem State.saved_report (s : State) (f : Flag) : (s.report f).saved = s.saved := rfl
@[simp] theorem State.saved_setActive (s : State) (n : Option SceneNo) : (s.setActive n).saved = s.saved := rfl
@[simp] theorem State.saved_setPendings (s : State) (l : List Pending) : (s.setPendings l).saved = s.saved := rfl
@[simp] theorem State.saved_takeHead (s : State) : s.takeHead.saved = s.saved := rfl
@[simp] theorem State.saved_request (s : State) (r : Request) : (s.request r).saved = s.saved := rfl
@[simp] theorem State.saved_withdrawAbsence (s : State) (n : Nat) : (s.withdrawAbsence n).saved = s.saved := rfl
@[simp] theorem State.saved_enter (s : State) (which : Circuit → Bool) (fade : Nat) :
    (s.enter which fade).saved = s.saved := rfl
@[simp] theorem State.saved_countTimers (s : State) : s.countTimers.saved = s.saved := rfl
@[simp] theorem State.saved_removeWhere (s : State) (gone : Circuit → Claim → Bool) :
    (s.removeWhere gone).saved = s.saved := rfl
@[simp] theorem State.saved_setEgress (s : State) (b : Bool) : (s.setEgress b).saved = s.saved := rfl
@[simp] theorem State.saved_claims (s : State) (b : ClaimBlock) : State.saved { s with claims := b } = s.saved := rfl
@[simp] theorem State.saved_cues (s : State) (b : CueBlock) : State.saved { s with cues := b } = s.saved := rfl

@[simp] theorem State.saved_setCueContact (s : State) (x : Cue) (b : Bool) : (s.setCueContact x b).saved = s.saved := by
  cases x <;> rfl

@[simp] theorem State.saved_reportIf (s : State) (b : Bool) (f : Flag) : (s.reportIf b f).saved = s.saved := by
  cases b <;> rfl

@[simp] theorem State.saved_offerUnrouted (s : State) (u : Unrouted) : (s.offerUnrouted u).saved = s.saved := by
  unfold State.offerUnrouted
  repeat' split
  all_goals rfl

@[simp] theorem State.saved_startLossTimer (s : State) : s.startLossTimer.saved = s.saved := by
  rw [State.startLossTimer_eq]
  rfl

/-! ### Outcomes -/

/-- A change to the feedback alone. -/
theorem State.saved_of_feedback {s t : State} {f : FeedbackBlock} (h : t = { s with feedback := f }) : t.saved = s.saved := by
  rw [h]
  rfl

@[simp] theorem State.saved_outcome (s : State) (st k : Nat) (ack : Bool) : (s.outcome st k ack).saved = s.saved :=
  State.saved_of_feedback (s.outcome_feedback_only st k ack)

@[simp] theorem State.saved_settle (s : State) (st k : Nat) (f : FeedbackKind) (refused : Bool) (l : List Circuit) :
    (s.settle st k f refused l).saved = s.saved :=
  State.saved_of_feedback (s.settle_feedback_only st k f refused l)

@[simp] theorem State.saved_accept (s : State) (st k : Nat) (f : FeedbackKind) (l : List Circuit) :
    (s.accept st k f l).saved = s.saved := s.saved_settle st k f false l

@[simp] theorem State.saved_nackEach (l : List Pending) (s : State) : (State.nackEach l s).saved = s.saved :=
  State.saved_of_feedback (State.nackEach_feedback_only l s)

@[simp] theorem State.saved_settleRecords (pub : List Circuit) (l : List Applied) (s : State) :
    (State.settleRecords pub l s).saved = s.saved :=
  State.saved_of_feedback (State.settleRecords_feedback_only pub l s)

/-! ### Roster entries and replies -/

/-- A roster entry changed in its live state, its misses or its reply slot. -/
theorem State.saved_modifyEntry (s : State) (n : Nat) {f : RosterEntry → RosterEntry}
    (hf : ∀ e, (f e).asLoaded = e.asLoaded) :
    (s.modifyEntry n f).saved = s.saved := by
  refine State.saved_congr rfl rfl ?_ rfl rfl rfl fun _ => rfl
  rw [State.modifyEntry_line, List.map_map]
  refine List.map_congr_left fun e _ => ?_
  show (if e.station = n then f e else e).asLoaded = e.asLoaded
  split
  · exact hf e
  · rfl

@[simp] theorem State.saved_complete (s : State) (n : Nat) (r : Result) (p : List Byte) : (s.complete n r p).saved = s.saved := by
  unfold State.complete State.putReply
  repeat' split
  · exact s.saved_modifyEntry n fun _ => rfl
  · rfl
  · rfl
  · rfl

@[simp] theorem State.saved_replyFires (l : List Fire) (s : State) : (State.replyFires l s).saved = s.saved := by
  induction l generalizing s with
  | nil => rfl
  | cons f rest ih => exact (ih _).trans (s.saved_complete _ _ _)

@[simp] theorem State.saved_visitFrom (n : Nat) (s : State) : (s.visitFrom n).saved = s.saved := by
  unfold State.visitFrom
  split
  · next e _ =>
    exact (s.takeShots e.station e.controls).saved_modifyEntry e.station (f := fun x => { x with slot := none }) fun _ => rfl
  · rfl

@[simp] theorem State.saved_nextVisit (s : State) : s.nextVisit.saved = s.saved := by
  have cycle : s.endCycle.saved = s.saved := State.saved_visitFrom 0 _
  unfold State.nextVisit
  repeat' split
  · exact State.saved_visitFrom _ s
  · rfl
  · exact cycle
  · exact cycle

/-! ### Work on claims -/

theorem SameButClaims.saved {s t : State} (h : SameButClaims s t) : t.saved = s.saved := by
  rw [h.1]
  rfl

@[simp] theorem State.saved_placeOne (s : State) (c : Circuit) (cl : Claim) : (s.placeOne c cl).saved = s.saved :=
  (s.placeOne_same c cl).saved

@[simp] theorem State.saved_applyWork (st k : Nat) (i : WindowIndex) (layer : Layer) (w : ClaimWork) (l : List Circuit)
    (s : State) : (s.applyWork st k i layer w l).2.saved = s.saved :=
  (s.applyWork_same st k i layer w l).saved

@[simp] theorem State.saved_recallPasses (r : SceneRecord) (s : State) : (s.recallPasses r).2.saved = s.saved :=
  (s.recallPasses_same r).saved

@[simp] theorem State.saved_releaseScenes (s : State) : s.releaseScenes.saved = s.saved := rfl

@[simp] theorem State.saved_applyRecords (l : List Pending) (s : State) : (State.applyRecords l s).2.saved = s.saved := by
  induction l generalizing s with
  | nil => rfl
  | cons p rest ih =>
    have one : (s.applyRecord p).2.saved = s.saved := by
      unfold State.applyRecord
      repeat' split
      all_goals simp
    exact (ih _).trans one

/-! ### Publications, masters and fades -/

/-- R112: a delivery leaves the attributes. -/
@[simp] theorem State.saved_deliver (s : State) (pub : Circuit → Option Publication) : (s.deliver pub).saved = s.saved := by
  refine State.saved_congr rfl rfl rfl rfl rfl rfl fun c => ?_
  rw [State.eng_deliver]
  cases pub c <;> simp

@[simp] theorem State.saved_closeSet (s : State) : s.closeSet.saved = s.saved := s.saved_deliver s.closing

@[simp] theorem State.saved_safetyWrite (s : State) (k : Slot) (w : Circuit → Option (Option Nat)) (fade : Nat) :
    (s.safetyWrite k w fade).saved = s.saved := State.saved_deliver (s.writeSlots k w) _

@[simp] theorem State.saved_changeMode (s : State) (m : Mode) : (s.changeMode m).saved = s.saved := by
  rw [State.changeMode_eq]
  rfl

@[simp] theorem State.saved_writeMaster (s : State) (m : Master) (v : Nat) : (s.writeMaster m v).saved = s.saved := by
  refine State.saved_congr rfl rfl rfl rfl rfl rfl fun c => ?_
  rw [State.eng_writeMaster]
  split <;> rfl

theorem State.saved_fadeStep (s : State) : s.fadeStep.saved = s.saved := by
  unfold State.fadeStep
  split
  · refine State.saved_congr rfl rfl rfl rfl rfl rfl fun c => ?_
    exact (congrArg EngineCircuit.attr (getElem_mapTable _ _ c)).trans (EngineCircuit.stepped_attr _ _)
  · rfl

/-! ### Cues, windows and event records -/

@[simp] theorem State.saved_cueEvent (x : Cue) (fire : Option Nat) (s : State) : (s.cueEvent x fire).saved = s.saved := by
  unfold State.cueEvent
  dsimp only
  split
  · split
    · exact s.saved_complete _ _ _
    · rfl
  · split <;> rfl

@[simp] theorem State.saved_dropPendings (gone : Pending → Bool) (s : State) : (s.dropPendings gone).saved = s.saved :=
  (State.saved_nackEach _ _).trans (s.saved_setPendings _)

@[simp] theorem State.saved_enterPending (p : Pending) (s : State) : (s.enterPending p).saved = s.saved := by
  unfold State.enterPending
  repeat' split
  all_goals simp

@[simp] theorem State.saved_handScene (r : Request) (s : State) : (s.handScene r).saved = s.saved := by
  unfold State.handScene
  split <;> simp

/-- R26: no action of a window writes a table that is saved. -/
@[simp] theorem State.saved_act (i : WindowIndex) (w : Window) (r : EventRecord) (s : State) : (s.act i w r).saved = s.saved := by
  unfold State.act State.handClaim State.handSceneAction
  dsimp only
  repeat' split
  all_goals simp

@[simp] theorem State.saved_takeEventRecord (s : State) : s.takeEventRecord.saved = s.saved := by
  have htaken : ∀ l, State.saved { s with route := { s.route with intake := l } } = s.saved := fun _ => rfl
  unfold State.takeEventRecord State.resolve State.unrouted
  dsimp only
  repeat' split
  all_goals simp [htaken]

theorem State.saved_offerEvent (r : EventRecord) (s : State) : (s.offerEvent r).saved = s.saved := by
  unfold State.offerEvent
  repeat' split
  · rfl
  · simp
  · simp

@[simp] theorem State.saved_claimActionGrant (s : State) : s.claimActionGrant.saved = s.saved := by
  unfold State.claimActionGrant State.grantClaimAction
  repeat' split
  all_goals simp

end Sys2Proof.Machine
end

section
/-! PROOFS. While the store is BUSY no step changes what a SAVE reads, unless it leads to LOADING (O13). -/

namespace Sys2Proof.Machine

/-! ### Requests of management (R176) -/

/-- R176: while the store is BUSY a request that writes a table is refused, and no other request writes one. -/
theorem State.saved_serve {s : State} (hbusy : s.storeBusy = true) (c : Instr) : (s.serve c).saved = s.saved := by
  cases c with
  | readStatus | readEntry | readUnrouted | clearFlags =>
    simp only [State.serve, State.reqReadStatus, State.reqReadEntry, State.reqReadUnrouted, State.reqClearFlags]
    repeat' split
    all_goals exact State.saved_complete _ _ _ _
  | setMask | writeSettings | restart | save | verify =>
    simp only [State.serve, State.reqSetMask, State.reqWriteSettings, State.reqRestart, State.reqSave, State.reqVerify, hbusy,
      if_true, Bool.true_or]
    repeat' split
    all_goals exact State.saved_complete _ _ _ _
  | enrol | delete | writeWindow | setWindow | addGroupMember | removeGroupMember | writeCircuit =>
    simp only [State.serve, State.reqEnrol, State.reqDelete, State.reqWriteWindow, State.reqSetWindow,
      State.reqAddGroupMember, State.reqRemoveGroupMember, State.reqWriteCircuit, hbusy, if_true, Bool.true_or]
    repeat' split
    all_goals exact State.saved_complete _ _ _ _
  | setSceneEntry | clearSceneEntry | setSceneFade | captureScene =>
    simp only [State.serve, State.reqSetSceneEntry, State.reqClearSceneEntry, State.reqSetSceneFade, State.reqCaptureScene,
      State.sceneEditRefusal, hbusy, if_true, Bool.true_or]
    repeat' split
    all_goals exact State.saved_complete _ _ _ _
  | setLevel | releaseLayer | setMode | fireCue | clearPending | setMaster =>
    simp only [State.serve, State.reqSetLevel, State.reqReleaseLayer, State.reqSetMode, State.reqFireCue,
      State.reqClearPending, State.reqSetMaster]
    repeat' split
    all_goals simp
  | _ => rfl

/-- R182: a request that is taken begins in progress, and what a SAVE reads follows its work. -/
theorem State.saved_takeRequest {s : State} {work : State → State} (sender tag : Nat)
    (h : (work (s.beginRequest sender tag)).saved = (s.beginRequest sender tag).saved) :
    (s.takeRequest sender tag work).saved = s.saved := by
  unfold State.takeRequest
  split
  · exact h
  · rfl

theorem State.saved_handRecord {s : State} (hbusy : s.storeBusy = true) (sender : Nat) (r : Record) :
    (s.handRecord sender r).saved = s.saved := by
  refine State.saved_takeRequest sender r.tag ?_
  unfold State.checkRecord
  repeat' split
  · simp
  · simp
  · simp
  · simp
  · exact State.saved_serve (s := s.beginRequest sender r.tag) hbusy _

/-! ### Answers and misses (R7 to R16) -/

theorem State.saved_lineHeard (s : State) : s.lineHeard.saved = s.saved := by
  have hok : s.declareOk.saved = s.saved := State.saved_safetyWrite _ _ _ _
  unfold State.lineHeard
  split <;> simp [hok]

theorem State.saved_takeContents {s : State} (hbusy : s.storeBusy = true) (station controls : Nat) (takes : List Nat)
    (a : Answer) : (s.takeContents station controls takes a).saved = s.saved := by
  cases a with
  | management r => exact State.saved_handRecord hbusy station r
  | events l =>
    exact State.takeEvents_keeps (P := fun u => u.saved = s.saved) (fun u h => u.saved_claimActionGrant.trans h)
      (fun u h => u.saved_takeEventRecord.trans h) (fun u r h => (u.saved_offerEvent r).trans h) (fun _ h => h) l takes s rfl

/-- R8: the arrival of a valid answer writes live states alone before its contents are taken. -/
theorem State.saved_validAnswer {s : State} (hbusy : s.storeBusy = true) (e : RosterEntry) (takes : List Nat) (a : Answer) :
    (s.validAnswer e takes a).saved = s.saved := by
  have hpresent : (s.modifyEntry e.station fun x => { x with live := .present, missed := 0 }).saved = s.saved :=
    s.saved_modifyEntry e.station fun _ => rfl
  have hheard := (State.saved_lineHeard _).trans ((State.saved_withdrawAbsence _ e.station).trans hpresent)
  exact (State.saved_takeContents ((State.storeBusy_of_saved hheard).trans hbusy) _ _ _ _).trans hheard

theorem State.saved_judgeValid {s : State} (hbusy : s.storeBusy = true) (n : Nat) (takes : List Nat) (a : Answer) :
    (s.judgeValid n takes a).saved = s.saved := by
  unfold State.judgeValid
  split
  · exact State.saved_validAnswer hbusy _ _ _
  · split
    · cases a with
      | events => rfl
      | management r => exact State.saved_handRecord hbusy _ r
    · unfold State.discovered
      split <;> simp

theorem State.saved_judgeMiss (n : Nat) (s : State) : (s.judgeMiss n).saved = s.saved := by
  have hcounted : ∀ e : RosterEntry, (s.modifyEntry e.station fun x => { x with missed := e.missed + 1 }).saved = s.saved :=
    fun e => s.saved_modifyEntry e.station fun _ => rfl
  unfold State.judgeMiss State.miss
  dsimp only
  repeat' split
  all_goals simp [hcounted]

theorem State.saved_answerReceived {s : State} (hbusy : s.storeBusy = true) (frame : Arrival) :
    (s.answerReceived frame).saved = s.saved := by
  unfold State.answerReceived
  split
  · refine (State.saved_nextVisit _).trans ?_
    unfold State.judgeFrame
    split
    · exact State.saved_judgeValid hbusy _ _ _
    · exact State.saved_judgeMiss _ _
  · rfl
  · rfl

theorem State.saved_answerTimeout (s : State) : s.answerTimeout.saved = s.saved := by
  unfold State.answerTimeout
  split
  · exact (State.saved_nextVisit _).trans (State.saved_judgeMiss _ s)
  · rfl
  · rfl

/-! ### Grants and completions -/

theorem State.saved_absenceGrant (s : State) : s.absenceGrant.saved = s.saved := by
  unfold State.absenceGrant
  split
  · next n _ =>
    have hlive : (s.takeHead.modifyEntry n fun e => { e with live := .absent }).saved = s.saved :=
      s.takeHead.saved_modifyEntry n fun _ => rfl
    exact (State.saved_closeSet _).trans hlive
  · rfl

/-- R93: a capture that is granted while the store is BUSY is refused. -/
theorem State.saved_captureGrant {s : State} (hbusy : s.storeBusy = true) : s.captureGrant.saved = s.saved := by
  unfold State.captureGrant State.grantCapture
  split
  · rw [if_pos (show s.takeHead.storeBusy = true from hbusy)]
    simp
  · rfl

theorem State.saved_stationRemovalGrant (s : State) : s.stationRemovalGrant.saved = s.saved := by
  unfold State.stationRemovalGrant
  split <;> simp

theorem State.saved_claimTimerExpiry (s : State) : s.claimTimerExpiry.saved = s.saved := by
  unfold State.claimTimerExpiry
  repeat' split
  all_goals simp

theorem State.saved_expiryGrant (s : State) : s.expiryGrant.saved = s.saved := by
  unfold State.expiryGrant
  split <;> simp

theorem State.saved_setLevelGrant (s : State) : s.setLevelGrant.saved = s.saved := by
  unfold State.setLevelGrant State.grantSetLevel
  repeat' split
  all_goals simp

theorem State.saved_releaseLayerGrant (s : State) : s.releaseLayerGrant.saved = s.saved := by
  unfold State.releaseLayerGrant State.grantReleaseLayer
  split <;> simp

theorem State.saved_mergeRuleGrant (s : State) : s.mergeRuleGrant.saved = s.saved := by
  unfold State.mergeRuleGrant State.grantMergeRule
  split <;> simp

theorem State.saved_recallGrant (s : State) : s.recallGrant.saved = s.saved := by
  unfold State.recallGrant
  split
  · exact State.saved_recallPasses _ s.takeHead
  · rfl

theorem State.saved_recallCompletion (s : State) : s.recallCompletion.saved = s.saved := by
  unfold State.recallCompletion State.completeRecall
  repeat' split
  all_goals simp

theorem State.saved_releaseGrant (s : State) : s.releaseGrant.saved = s.saved := by
  unfold State.releaseGrant State.grantRelease
  split <;> simp

theorem State.saved_cueGrant (s : State) : s.cueGrant.saved = s.saved := by
  unfold State.cueGrant
  split
  · exact State.saved_applyRecords _ s.takeHead
  · rfl

theorem State.saved_cueCompletion (s : State) : s.cueCompletion.saved = s.saved := by
  unfold State.cueCompletion State.completeCue
  split <;> simp

theorem State.saved_modeChangeGrant (s : State) : s.modeChangeGrant.saved = s.saved := by
  unfold State.modeChangeGrant State.grantModeAction State.grantModeSet
  repeat' split
  all_goals simp

/-! ### Inputs and the loop -/

theorem State.saved_cueInput (x : Cue) (asserted : Bool) (s : State) : (s.cueInput x asserted).saved = s.saved := by
  unfold State.cueInput
  repeat' split
  all_goals simp

theorem State.saved_egressAssertion (s : State) : s.egressAssertion.saved = s.saved := by
  unfold State.egressAssertion State.egressWrite
  split <;> simp

theorem State.saved_egressRelease (s : State) : s.egressRelease.saved = s.saved := by
  unfold State.egressRelease
  split <;> simp

theorem State.saved_lineLossTimerExpiry (s : State) : s.lineLossTimerExpiry.saved = s.saved := by
  unfold State.lineLossTimerExpiry
  split
  · exact State.saved_safetyWrite _ _ _ _
  · rfl

theorem State.saved_frameOutcome (o : Outstanding) (v : LoopVerdict) (s : State) : (s.frameOutcome o v).saved = s.saved := by
  rw [State.frameOutcome_eq]
  rfl

theorem State.saved_returnTimeout (s : State) : s.returnTimeout.saved = s.saved := by
  unfold State.returnTimeout
  repeat' split
  all_goals simp [State.saved_frameOutcome]

theorem State.saved_loopFrameReceived (bits : List Bool) (s : State) : (s.loopFrameReceived bits).saved = s.saved := by
  have hstatus : ∀ (u : State) (g : Segment) (values : List Word), (u.writeStatus g values).saved = u.saved :=
    fun u g values => by
      rw [State.writeStatus_frame]
      rfl
  unfold State.loopFrameReceived State.takeReturn
  dsimp only
  repeat' split
  all_goals simp [State.saved_frameOutcome, hstatus]

theorem State.saved_levelSchedule (s : State) : s.levelSchedule.saved = s.saved := by
  unfold State.levelSchedule
  split <;> rfl

theorem State.saved_statusSchedule (s : State) : s.statusSchedule.saved = s.saved := by
  unfold State.statusSchedule
  split <;> rfl

theorem State.saved_transmitStart (s : State) : s.transmitStart.saved = s.saved := by
  unfold State.transmitStart
  repeat' split
  all_goals rfl

theorem State.saved_transmitEnd (s : State) : s.transmitEnd.saved = s.saved := by
  unfold State.transmitEnd
  split <;> rfl

/-! ### The store, and restarts -/

/-- R177: the end of a SAVE leaves the live tables. -/
theorem State.savedTables_saveCompletion (readBack : List (List Byte)) (s : State) :
    (s.saveCompletion readBack).saved.tables = s.saved.tables := by
  unfold State.saveCompletion
  split
  · rw [State.saved_reportIf]
    rfl
  · rfl
  · rfl

/-- R179: the end of a VERIFY leaves the live tables. -/
theorem State.savedTables_verifyCompletion (s : State) : s.verifyCompletion.saved.tables = s.saved.tables := by
  unfold State.verifyCompletion
  split
  · rw [State.saved_complete]
    rfl
  · rfl
  · rfl

/-- R191: POLL_SENT leaves what a SAVE reads, or restarts the part. -/
theorem State.saved_pollSent (s : State) : s.pollSent.part ≠ .loading → s.pollSent.saved = s.saved := by
  unfold State.pollSent State.replySent
  repeat' split
  · exact fun h => absurd rfl h
  · exact fun _ => rfl
  · exact fun _ => rfl
  · exact fun _ => rfl
  · exact fun _ => rfl

/-! ### Every step -/

/-- R176: outside LOADING every command leaves the tables that a SAVE writes while the store is BUSY, unless it leads to
LOADING. -/
theorem exec_savedTables (c : Instr) {s : State} (hbusy : s.storeBusy = true) (hp : s.part ≠ .loading) :
    ∃ t, exec c s = .next t ∧ (t.part ≠ .loading → t.saved.tables = s.saved.tables) := by
  have of_saved : ∀ {t : State}, t.saved = s.saved → t.part ≠ .loading → t.saved.tables = s.saved.tables :=
    fun h _ => by rw [h]
  cases hf : requestForm c with
  | some f =>
    have hserved := State.saved_serve (s := s.beginRequest f.sender f.tag) hbusy c
    exact ⟨_, exec_request hf s, of_saved (State.saved_takeRequest _ _ hserved)⟩
  | none =>
    cases c with
    | powerOn => exact ⟨_, rfl, fun h => absurd rfl h⟩
    | powerLoss =>
      refine ⟨_, rfl, ?_⟩
      unfold State.powerLoss
      split
      · exact fun h => absurd rfl h
      · exact fun _ => rfl
    | loadingEnd => exact ⟨_, rfl, of_saved (congrArg State.saved (if_neg fun h => hp h.2))⟩
    | pollSent => exact ⟨_, rfl, fun h => congrArg SavedView.tables (s.saved_pollSent h)⟩
    | answerReceived => exact ⟨_, rfl, of_saved (State.saved_answerReceived hbusy _)⟩
    | answerWindowTimeout => exact ⟨_, rfl, of_saved s.saved_answerTimeout⟩
    | strayStationFrame => exact ⟨_, rfl, fun _ => rfl⟩
    | lineLossTimerExpiry => exact ⟨_, rfl, of_saved s.saved_lineLossTimerExpiry⟩
    | egressAssertion => exact ⟨_, rfl, of_saved s.saved_egressAssertion⟩
    | egressRelease => exact ⟨_, rfl, of_saved s.saved_egressRelease⟩
    | cueInputDebounced => exact ⟨_, rfl, of_saved (State.saved_cueInput _ _ s)⟩
    | takeEventRecord => exact ⟨_, rfl, of_saved s.saved_takeEventRecord⟩
    | claimActionGrant => exact ⟨_, rfl, of_saved s.saved_claimActionGrant⟩
    | absenceGrant => exact ⟨_, rfl, of_saved s.saved_absenceGrant⟩
    | stationRemovalGrant => exact ⟨_, rfl, of_saved s.saved_stationRemovalGrant⟩
    | claimTimerExpiry => exact ⟨_, rfl, of_saved s.saved_claimTimerExpiry⟩
    | expiryGrant => exact ⟨_, rfl, of_saved s.saved_expiryGrant⟩
    | setLevelGrant => exact ⟨_, rfl, of_saved s.saved_setLevelGrant⟩
    | releaseLayerGrant => exact ⟨_, rfl, of_saved s.saved_releaseLayerGrant⟩
    | mergeRuleGrant => exact ⟨_, rfl, of_saved s.saved_mergeRuleGrant⟩
    | recallGrant => exact ⟨_, rfl, of_saved s.saved_recallGrant⟩
    | recallCompletion => exact ⟨_, rfl, of_saved s.saved_recallCompletion⟩
    | releaseGrant => exact ⟨_, rfl, of_saved s.saved_releaseGrant⟩
    | captureGrant => exact ⟨_, rfl, of_saved (State.saved_captureGrant hbusy)⟩
    | cueGrant => exact ⟨_, rfl, of_saved s.saved_cueGrant⟩
    | cueCompletion => exact ⟨_, rfl, of_saved s.saved_cueCompletion⟩
    | modeChangeGrant => exact ⟨_, rfl, of_saved s.saved_modeChangeGrant⟩
    | fadeStepTimerExpiry => exact ⟨_, rfl, of_saved s.saved_fadeStep⟩
    | levelScheduleTimerExpiry => exact ⟨_, rfl, of_saved s.saved_levelSchedule⟩
    | statusScheduleTimerExpiry => exact ⟨_, rfl, of_saved s.saved_statusSchedule⟩
    | frameTransmitStart => exact ⟨_, rfl, of_saved s.saved_transmitStart⟩
    | frameTransmitEnd => exact ⟨_, rfl, of_saved s.saved_transmitEnd⟩
    | returnTimeout => exact ⟨_, rfl, of_saved s.saved_returnTimeout⟩
    | loopFrameReceived => exact ⟨_, rfl, of_saved (State.saved_loopFrameReceived _ s)⟩
    | saveCompletion => exact ⟨_, rfl, fun _ => State.savedTables_saveCompletion _ s⟩
    | verifyCompletion => exact ⟨_, rfl, fun _ => s.savedTables_verifyCompletion⟩
    | _ => cases hf

/-- A fresh part in LOADING has an IDLE store, so that a BUSY store is outside LOADING. -/
theorem State.FreshInLoading.part_of_busy {s : State} (hfresh : s.FreshInLoading) (hbusy : s.store.state ≠ .idle) :
    s.part ≠ .loading := fun hp => hbusy (congrArg (fun u : State => u.store.state) (hfresh hp)).symm

/-- Settles O13: a BUSY store refuses the requests that write a table, and no other command outside LOADING writes one. -/
theorem busyStoreKeepsTheTables : Obligations.BusyStoreKeepsTheTables := by
  intro s t n hfresh hbusy h hpart
  have hp := hfresh.part_of_busy hbusy
  unfold step at h
  split at h
  · cases h
    rfl
  · next c rest _ =>
    obtain ⟨u, hu, hkept⟩ := exec_savedTables c (s := s.withPending rest) ((State.storeBusy_iff _).mpr hbusy) hp
    obtain rfl : u = t := Host.Outcome.next.inj (hu.symm.trans h)
    exact State.content_of_savedTables (hkept hpart) n

end Sys2Proof.Machine
end

section
/-! PROOFS. Flags, masks and the FAULT output (O57). -/

namespace Sys2Proof.Machine

/-! ### Bits of flag words (R194) -/

/-- A word is not 0 when one of its bits is set. -/
theorem bne_zero_iff_bit (w : Word) : (w != 0) = true ↔ ∃ i, w.getLsbD i = true := by
  rw [bne_iff_ne]
  constructor
  · intro hne
    by_contra hno
    push Not at hno
    exact hne (BitVec.eq_of_getLsbD_eq fun i _ => by simpa using hno i)
  · rintro ⟨i, hi⟩ rfl
    simp at hi

theorem Flag.index_lt_fourteen (f : Flag) : f.index < 14 := by cases f <;> decide

/-- Table 11-4: the fourteen flags stand at the bits 0 to 13. -/
theorem Flag.exists_index {i : Nat} (h : i < 14) : ∃ f : Flag, f.index = i := by
  exact ⟨Flag.ofNat i, by interval_cases i <;> rfl⟩

theorem getLsbD_flagBits (i : Nat) : flagBits.getLsbD i = decide (i < 14) := by
  rw [show flagBits = (BitVec.allOnes 14).setWidth 16 from rfl, BitVec.getLsbD_setWidth, BitVec.getLsbD_allOnes]
  by_cases h : i < 14
  · simp [h, h.trans (by decide : 14 < 16)]
  · simp [h]

/-- R189: the flags that have no mask. -/
def Flag.Bare (f : Flag) : Prop := f = .egressFault ∨ f = .lineLost ∨ f = .storeFault

theorem Flag.getLsbD_word_index (f g : Flag) : g.word.getLsbD f.index = true ↔ f = g := by
  rw [g.getLsbD_word, decide_eq_true_iff]
  exact ⟨fun h => (Flag.index_injective h).symm, fun h => by rw [h]⟩

theorem Flag.getLsbD_unmaskable (f : Flag) : unmaskable.getLsbD f.index = true ↔ f.Bare := by
  unfold unmaskable Flag.Bare
  rw [BitVec.getLsbD_or, BitVec.getLsbD_or, Bool.or_eq_true, Bool.or_eq_true, f.getLsbD_word_index, f.getLsbD_word_index,
    f.getLsbD_word_index, or_assoc]

theorem Flag.getLsbD_not (f : Flag) (w : Word) : (~~~w).getLsbD f.index = true ↔ ¬w.getLsbD f.index = true := by
  simp [f.index_lt]

/-! ### Reports and the FAULT output (R187, R190) -/

theorem State.flagSet_report_iff (s : State) (f g : Flag) : (s.report f).flagSet g = true ↔ g = f ∨ s.flagSet g = true := by
  have h := s.flagSet_reportIf true f g
  rw [and_iff_left rfl] at h
  exact h.trans or_comm

/-- R190: FAULT is active for the flags that are set and unmasked or bare. -/
theorem State.faultOutput_iff (s : State) :
    s.faultOutput = true ↔
      ∃ f : Flag, s.flagSet f = true ∧ (f.Bare ∨ ¬s.mgmt.settings.masks.getLsbD f.index = true) := by
  have hbit : ∀ f : Flag,
      (s.mgmt.flags &&& flagBits &&& (unmaskable ||| ~~~s.mgmt.settings.masks)).getLsbD f.index = true ↔
        s.flagSet f = true ∧ (f.Bare ∨ ¬s.mgmt.settings.masks.getLsbD f.index = true) := fun f => by
    rw [State.flagSet_iff, ← f.getLsbD_unmaskable, ← f.getLsbD_not, BitVec.getLsbD_and, BitVec.getLsbD_and, BitVec.getLsbD_or,
      getLsbD_flagBits, decide_eq_true f.index_lt_fourteen, Bool.and_true, Bool.and_eq_true, Bool.or_eq_true]
  unfold State.faultOutput
  rw [bne_zero_iff_bit]
  constructor
  · rintro ⟨i, hi⟩
    have hflag : flagBits.getLsbD i = true := by
      rw [BitVec.getLsbD_and, BitVec.getLsbD_and, Bool.and_eq_true, Bool.and_eq_true] at hi
      obtain ⟨⟨-, hflag⟩, -⟩ := hi
      exact hflag
    obtain ⟨f, rfl⟩ := Flag.exists_index (by simpa [getLsbD_flagBits] using hflag)
    exact ⟨f, (hbit f).mp hi⟩
  · rintro ⟨f, hf⟩
    exact ⟨f.index, (hbit f).mpr hf⟩

/-! ### CLEAR_FLAGS (R188) -/

theorem State.getLsbD_heldFlags (s : State) (f : Flag) :
    s.heldFlags.getLsbD f.index = true ↔
      (f = .lineLost ∧ s.line.lossDeclared = true) ∨ (f = .storeFault ∧ s.store.valid = false) := by
  unfold State.heldFlags
  rw [BitVec.getLsbD_or, Bool.or_eq_true]
  refine or_congr ?_ ?_
  · cases s.line.lossDeclared <;> simp [f.getLsbD_word_index]
  · cases s.store.valid <;> simp [f.getLsbD_word_index]

/-- R188: the named flags are cleared, apart from those that are held. -/
theorem State.getLsbD_clearedFlags (s : State) (named : Word) (f : Flag) :
    (s.clearedFlags named).getLsbD f.index = true ↔
      s.flagSet f = true ∧
        (¬named.getLsbD f.index = true ∨ (f = .lineLost ∧ s.line.lossDeclared = true) ∨
          (f = .storeFault ∧ s.store.valid = false)) := by
  unfold State.clearedFlags
  rw [State.flagSet_iff, ← State.getLsbD_heldFlags, ← f.getLsbD_not, BitVec.getLsbD_and, BitVec.getLsbD_or, Bool.and_eq_true,
    Bool.or_eq_true]

theorem clearFlags_taken (s : State) (sender tag : Nat) (word : Word) (h : s.takes sender = true) :
    ∃ t, exec (.clearFlags sender tag word) s = .next t ∧
      State.Answered sender tag .done (wordBytes t.mgmt.flags) s
        { s with mgmt := { s.mgmt with flags := t.mgmt.flags } } t ∧
      ∀ f : Flag, t.flagSet f = true ↔
        s.flagSet f = true ∧
          (¬word.getLsbD f.index = true ∨ (f = .lineLost ∧ s.line.lossDeclared = true) ∨
            (f = .storeFault ∧ s.store.valid = false)) := by
  have hflags : ((s.beginRequest sender tag).reqClearFlags sender word).mgmt.flags = s.clearedFlags word :=
    State.complete_flags _ _ _ _
  refine ⟨_, congrArg Host.Outcome.next (State.takeRequest_of_taken h), ?_, fun f => ?_⟩
  · rw [hflags]
    exact State.answered_of_taken h rfl rfl rfl
  · rw [State.flagSet_iff, hflags, State.getLsbD_clearedFlags]

/-! ### SET_MASK (R176, R189) -/

@[simp] theorem State.complete_settings (s : State) (n : Nat) (r : Result) (p : List Byte) :
    (s.complete n r p).mgmt.settings = s.mgmt.settings := by rw [State.complete_eq]

/-- R189: the stored mask word holds the named flags that have a mask. -/
theorem Flag.getLsbD_storedMasks (f : Flag) (w : Word) :
    (storedMasks w).getLsbD f.index = true ↔ w.getLsbD f.index = true ∧ ¬f.Bare := by
  unfold storedMasks
  rw [BitVec.getLsbD_and, BitVec.getLsbD_and, getLsbD_flagBits, decide_eq_true f.index_lt_fourteen, Bool.and_true,
    Bool.and_eq_true, f.getLsbD_not, f.getLsbD_unmaskable]

theorem doneOr_bne (a b : Word) : doneOr (a != b) = if a = b then .done else .adjusted := by
  unfold doneOr
  by_cases h : a = b <;> simp [h]

theorem setMask_taken (s : State) (sender tag : Nat) (word : Word) (h : s.takes sender = true) :
    ∃ t, exec (.setMask sender tag word) s = .next t ∧
      (s.store.state ≠ .idle → State.Answered sender tag .busy [] s s t) ∧
      (s.store.state = .idle →
        State.Answered sender tag (if word &&& 0x2060#16 = 0 then .done else .adjusted) [] s
          { s with mgmt := { s.mgmt with settings := { s.mgmt.settings with masks := t.mgmt.settings.masks } } } t ∧
        ∀ f : Flag, t.mgmt.settings.masks.getLsbD f.index = true ↔ word.getLsbD f.index = true ∧ ¬f.Bare) := by
  refine ⟨_, congrArg Host.Outcome.next (State.takeRequest_of_taken h), fun hbusy => ?_, fun hidle => ?_⟩
  · unfold State.reqSetMask
    rw [if_pos ((State.storeBusy_iff (s.beginRequest sender tag)).mpr hbusy)]
    exact State.refused tag _ h
  · unfold State.reqSetMask
    rw [if_neg (State.not_storeBusy (s := s.beginRequest sender tag) hidle), doneOr_bne, State.complete_settings]
    exact ⟨State.answered_of_taken h rfl rfl rfl, fun f => f.getLsbD_storedMasks word⟩

/-- Settles O57: a flag is a bit of the flag word, and each operation is read bit by bit. -/
theorem flagsAndMasksDriveFault : Obligations.FlagsAndMasksDriveFault :=
  ⟨State.flagSet_report_iff, State.faultOutput_iff, fun s sender tag word h =>
    ⟨clearFlags_taken s sender tag word h, setMask_taken s sender tag word h⟩⟩

end Sys2Proof.Machine
end

section
/-! PROOFS. WRITE_SETTINGS and RESTART (O58). -/

namespace Sys2Proof.Machine

/-! ### Settings entries (R180) -/

theorem powerOnSceneOf_of_le {n : Nat} (h : n ≤ 96) : powerOnSceneOf n = some (sceneOf n) := by
  unfold powerOnSceneOf
  split
  · next h0 => rw [h0]; rfl
  · next h0 =>
    have hscene : sceneOf n = some ⟨n - 1, by omega⟩ := (if_neg h0).trans (dif_pos _)
    rw [hscene]
    rfl

/-- R180, case 2: an entry is refused for a bad scene or a code that is neither yes nor no. -/
theorem settingsOf_bad (masks : Word) {f : SettingsFields} (h : 96 < f.powerOnScene ∨ 1 < f.learn ∨ 1 < f.houseToCue) :
    settingsOf masks f = none := by
  unfold settingsOf
  rcases h with h | h | h
  · have hscene : powerOnSceneOf f.powerOnScene = none := by
      unfold powerOnSceneOf
      rw [if_neg (by omega), sceneOf_eq_none (.inr h)]
      rfl
    rw [hscene]
  · rw [(yesNoOf_eq_none_iff f.learn).mpr h]
    cases powerOnSceneOf f.powerOnScene <;> rfl
  · rw [(yesNoOf_eq_none_iff f.houseToCue).mpr h]
    cases powerOnSceneOf f.powerOnScene <;> cases yesNoOf f.learn <;> rfl

/-- R180, case 3: the settings that a good entry stores. -/
def storedSettings (masks : Word) (f : SettingsFields) : Settings where
  lineLoss := max 5 (min 100 f.lineLoss)
  modeFade := min f.modeFade 6000
  recoveryFade := min f.recoveryFade 6000
  powerOnScene := sceneOf f.powerOnScene
  learn := f.learn == 1
  houseToCue := f.houseToCue == 1
  masks := masks

theorem settingsOf_good (masks : Word) {f : SettingsFields} (hscene : f.powerOnScene ≤ 96) (hlearn : f.learn ≤ 1)
    (hcue : f.houseToCue ≤ 1) : settingsOf masks f = some (storedSettings masks f) := by
  unfold settingsOf
  rw [powerOnSceneOf_of_le hscene, yesNoOf_of_lt (Nat.lt_succ_of_le hlearn), yesNoOf_of_lt (Nat.lt_succ_of_le hcue)]
  rfl

theorem clampSettings_eq_iff (f : SettingsFields) :
    clampSettings f = f ↔ 5 ≤ f.lineLoss ∧ f.lineLoss ≤ 100 ∧ f.modeFade ≤ 6000 ∧ f.recoveryFade ≤ 6000 := by
  cases f
  simp only [clampSettings, clamp, SettingsFields.mk.injEq, and_true]
  omega

theorem doneOr_clampSettings (f : SettingsFields) :
    doneOr (clampSettings f != f) =
      if decide (5 ≤ f.lineLoss ∧ f.lineLoss ≤ 100 ∧ f.modeFade ≤ 6000 ∧ f.recoveryFade ≤ 6000) then .done
      else .adjusted := by
  unfold doneOr
  by_cases h : clampSettings f = f
  · rw [decide_eq_true ((clampSettings_eq_iff f).mp h)]
    simp [h]
  · rw [decide_eq_false fun hgood => h ((clampSettings_eq_iff f).mpr hgood)]
    simp [h]

/-! ### WRITE_SETTINGS (R180, R198) -/

/-- R180, R198: the settings are replaced, and the unrouted queue is emptied when learn turns from yes to no. -/
theorem State.storeSettings_eq (s : State) (t : Settings) :
    s.storeSettings t =
      { s with
        mgmt :=
          { s.mgmt with
            settings := t
            unrouted := if s.mgmt.settings.learn = true ∧ t.learn = false then [] else s.mgmt.unrouted } } := by
  unfold State.storeSettings
  cases s.mgmt.settings.learn <;> cases t.learn <;> rfl

theorem writeSettings_taken (s : State) (sender tag : Nat) (h : s.takes sender = true) (f : SettingsFields) :
    ∃ t, exec (.writeSettings sender tag f) s = .next t ∧
      (s.store.state ≠ .idle → State.Answered sender tag .busy [] s s t) ∧
      (s.store.state = .idle → 96 < f.powerOnScene ∨ 1 < f.learn ∨ 1 < f.houseToCue →
        State.Answered sender tag .outOfRange [] s s t) ∧
      (s.store.state = .idle → f.powerOnScene ≤ 96 → f.learn ≤ 1 → f.houseToCue ≤ 1 →
        State.Answered sender tag
          (if decide (5 ≤ f.lineLoss ∧ f.lineLoss ≤ 100 ∧ f.modeFade ≤ 6000 ∧ f.recoveryFade ≤ 6000) then .done
            else .adjusted) [] s
          { s with
            mgmt :=
              { s.mgmt with
                settings := storedSettings s.mgmt.settings.masks f
                unrouted := if s.mgmt.settings.learn = true ∧ f.learn = 0 then [] else s.mgmt.unrouted } } t) := by
  refine ⟨_, congrArg Host.Outcome.next (State.takeRequest_of_taken h), fun hbusy => ?_, fun hidle hbad => ?_,
    fun hidle hscene hlearn hcue => ?_⟩ <;> unfold State.reqWriteSettings
  · rw [if_pos ((State.storeBusy_iff (s.beginRequest sender tag)).mpr hbusy)]
    exact State.refused tag _ h
  · rw [if_neg (State.not_storeBusy (s := s.beginRequest sender tag) hidle), settingsOf_bad _ hbad]
    exact State.refused tag _ h
  · have hoff : (storedSettings s.mgmt.settings.masks f).learn = false ↔ f.learn = 0 := by
      show (f.learn == 1) = false ↔ f.learn = 0
      rw [beq_eq_false_iff_ne]
      omega
    have hunrouted := if_congr (and_congr_right' (a := s.mgmt.settings.learn = true) hoff) (Eq.refl ([] : List Unrouted))
      (Eq.refl s.mgmt.unrouted)
    rw [if_neg (State.not_storeBusy (s := s.beginRequest sender tag) hidle), settingsOf_good _ hscene hlearn hcue, ← hunrouted]
    dsimp only
    rw [State.storeSettings_eq, doneOr_clampSettings]
    exact State.answered_of_taken h rfl rfl rfl

/-! ### RESTART (R191) -/

theorem restart_taken (s : State) (sender tag : Nat) (h : s.takes sender = true) :
    ∃ t, exec (.restart sender tag) s = .next t ∧
      (s.store.state ≠ .idle → State.Answered sender tag .busy [] s s t) ∧
      (s.store.state = .idle →
        State.Answered sender tag .accepted [] s
          { s with mgmt := { s.mgmt with restartSet := t.mgmt.restartSet } } t ∧
        ∀ n, n ∈ t.mgmt.restartSet ↔ n = sender ∨ n ∈ s.mgmt.restartSet) := by
  refine ⟨_, congrArg Host.Outcome.next (State.takeRequest_of_taken h), fun hbusy => ?_, fun hidle => ?_⟩ <;>
    unfold State.reqRestart
  · rw [if_pos ((State.storeBusy_iff (s.beginRequest sender tag)).mpr hbusy)]
    exact State.refused tag _ h
  · rw [if_neg (State.not_storeBusy (s := s.beginRequest sender tag) hidle), State.complete_restartSet]
    refine ⟨State.answered_of_taken h rfl rfl rfl, fun n => ?_⟩
    show n ∈ s.mgmt.restartSet.filter (· != sender) ++ [sender] ↔ _
    rw [List.mem_append, List.mem_filter, List.mem_singleton, bne_iff_ne]
    tauto

/-- Settles O58: each request is refused while the store is BUSY, and is otherwise one write of the management block. -/
theorem settingsAndRestartAreTaken : Obligations.SettingsAndRestartAreTaken := fun s sender tag h =>
  ⟨writeSettings_taken s sender tag h, restart_taken s sender tag h⟩

end Sys2Proof.Machine
end

section
/-! PROOFS. SAVE and VERIFY from their taking to their end (O55), and the supply (O19). -/

namespace Sys2Proof.Machine

/-! ### SAVE and VERIFY taken (R176, R177, R179) -/

/-- R176, R191: SAVE and VERIFY are refused while the store is BUSY or a restart is pending. -/
theorem State.storeTaken_iff (s : State) :
    (s.storeBusy || s.restartPending) = true ↔ s.store.state ≠ .idle ∨ s.mgmt.restartSet ≠ [] := by
  unfold State.restartPending
  rw [Bool.or_eq_true, State.storeBusy_iff]
  simp

theorem State.not_storeTaken {s : State} (hidle : s.store.state = .idle) (hrestart : s.mgmt.restartSet = []) :
    ¬(s.storeBusy || s.restartPending) = true := by
  rw [State.storeTaken_iff]
  simp [hidle, hrestart]

theorem save_taken (s : State) (sender tag : Nat) (h : s.takes sender = true) :
    ∃ t, exec (.save sender tag) s = .next t ∧
      (s.store.state ≠ .idle ∨ s.mgmt.restartSet ≠ [] → State.Answered sender tag .busy [] s s t) ∧
      (s.store.state = .idle → s.mgmt.restartSet = [] →
        State.Answered sender tag .accepted [] s
          { s with
            store := { s.store with state := .saving 0, valid := false, image := Vector.replicate 6 .erased } } t) := by
  refine ⟨_, congrArg Host.Outcome.next (State.takeRequest_of_taken h), fun hbusy => ?_, fun hidle hrestart => ?_⟩ <;>
    unfold State.reqSave
  · rw [if_pos ((State.storeTaken_iff (s.beginRequest sender tag)).mpr hbusy)]
    exact State.refused tag _ h
  · rw [if_neg (State.not_storeTaken (s := s.beginRequest sender tag) hidle hrestart)]
    exact State.answered_of_taken h rfl rfl rfl

theorem verify_taken (s : State) (sender tag : Nat) (h : s.takes sender = true) (code : Nat) (expected : Word) :
    ∃ t, exec (.verify sender tag code expected) s = .next t ∧
      (6 ≤ code → State.Answered sender tag .outOfRange [] s s t) ∧
      (code < 6 → s.store.state ≠ .idle ∨ s.mgmt.restartSet ≠ [] → State.Answered sender tag .busy [] s s t) ∧
      (∀ n : SectionNo, code = n.val → s.store.state = .idle → s.mgmt.restartSet = [] →
        State.Waiting sender tag s { s with store := { s.store with state := .verifying sender n expected } } t) := by
  refine ⟨_, congrArg Host.Outcome.next (State.takeRequest_of_taken h), fun hbad => ?_, fun hcode hbusy => ?_,
    fun n hn hidle hrestart => ?_⟩ <;> unfold State.reqVerify
  · rw [indexOf_of_le hbad]
    exact State.refused tag _ h
  · rw [show indexOf 6 code = some ⟨code, hcode⟩ from dif_pos hcode]
    dsimp only
    rw [if_pos ((State.storeTaken_iff (s.beginRequest sender tag)).mpr hbusy)]
    exact State.refused tag _ h
  · rw [hn, indexOf_val]
    dsimp only
    rw [if_neg (State.not_storeTaken (s := s.beginRequest sender tag) hidle hrestart)]
    exact State.waiting_of_taken h rfl rfl

/-! ### The end of a SAVE (R177) -/

theorem overlaid_nil (content : List Byte) : overlaid [] content = content := by
  unfold overlaid
  simp

theorem Tables.stored_nil (T : Tables) (n : SectionNo) : T.stored n [] = .stored (T.content n) (crc16 (T.content n)) := by
  unfold Tables.stored
  rw [overlaid_nil]

theorem readBackOf_nil (n : SectionNo) : readBackOf [] n = [] := rfl

theorem Tables.readsBack_iff (T : Tables) (n : SectionNo) (bytes : List Byte) :
    T.readsBack n bytes = true ↔ crc16 (overlaid bytes (T.content n)) = crc16 (T.content n) := beq_iff_eq

/-- R177: the medium that reads back what was written has no bad section. -/
theorem Tables.firstBad_nil (T : Tables) : T.firstBad [] = none := by
  refine List.find?_eq_none.mpr fun n _ => ?_
  rw [readBackOf_nil, (T.readsBack_iff n []).mpr (by rw [overlaid_nil])]
  simp

/-- R177: the first bad section, by its CRC and those of the sections before it. -/
theorem Tables.firstBad_eq_some (T : Tables) {readBack : List (List Byte)} {bad : SectionNo}
    (hgood : ∀ n < bad, crc16 (overlaid (readBackOf readBack n) (T.content n)) = crc16 (T.content n))
    (hbad : crc16 (overlaid (readBackOf readBack bad) (T.content bad)) ≠ crc16 (T.content bad)) :
    T.firstBad readBack = some bad := by
  refine List.find?_eq_some_iff_getElem.mpr ⟨?_, bad.val, by simp, by simp, fun j hj => ?_⟩
  · rw [Bool.not_eq_true', Bool.eq_false_iff, ne_eq, Tables.readsBack_iff]
    exact hbad
  · have hlt : j < 6 := hj.trans bad.isLt
    have hsound : T.readsBack ⟨j, hlt⟩ (readBackOf readBack ⟨j, hlt⟩) = true :=
      (T.readsBack_iff _ _).mpr (hgood ⟨j, hlt⟩ hj)
    simpa using hsound

theorem saveCompletion_good (s : State) (current : SectionNo) (h : s.store.state = .saving current) :
    exec (.saveCompletion []) s =
      .next
        { s with
          store :=
            { image := Vector.ofFn fun n => .stored (s.tables.content n) (crc16 (s.tables.content n)), valid := true,
              state := .idle, last := .save true } } := by
  have himage : s.tables.savedImage [] = Vector.ofFn fun n => .stored (s.tables.content n) (crc16 (s.tables.content n)) := by
    unfold Tables.savedImage
    simp only [Tables.firstBad_nil, readBackOf_nil, Tables.stored_nil]
  refine congrArg Host.Outcome.next ?_
  unfold State.saveCompletion
  rw [h]
  dsimp only
  rw [Tables.firstBad_nil, himage]
  rfl

theorem saveCompletion_bad (s : State) (current : SectionNo) (h : s.store.state = .saving current)
    (readBack : List (List Byte)) (bad : SectionNo) (hbad : s.tables.firstBad readBack = some bad) :
    ∃ t, exec (.saveCompletion readBack) s = .next t ∧ t.store.valid = false ∧ t.store.state = .idle ∧
      t.store.last = .save false ∧ (∀ n : SectionNo, bad < n → t.store.image[n] = .erased) ∧
      t = { s with store := t.store, mgmt := { s.mgmt with flags := s.mgmt.flags ||| 0x2000#16 } } := by
  have herased : ∀ n : SectionNo, bad < n → (s.tables.savedImage readBack)[n] = .erased := fun n hn => by
    unfold Tables.savedImage
    rw [hbad]
    simp [hn]
  have hend : s.saveCompletion readBack =
      State.report .storeFault { s with store := s.store.endSave (s.tables.savedImage readBack) false } := by
    unfold State.saveCompletion
    rw [h]
    dsimp only
    rw [hbad]
    rfl
  exact ⟨_, congrArg Host.Outcome.next hend, rfl, rfl, rfl, herased, rfl⟩

/-! ### The end of a VERIFY (R179) -/

/-- R14: apart from the reply slots and the requests in progress, a reply changes nothing. -/
theorem State.withoutReplies_complete (s : State) (n : Nat) (r : Result) (p : List Byte) :
    (s.complete n r p).withoutReplies = s.withoutReplies := by
  have hslots : ∀ reply : Reply, (s.modifyEntry n fun e => { e with slot := some reply }).withoutReplies = s.withoutReplies :=
    fun reply => by
      have hmap : (s.line.roster.map fun e => if e.station = n then { e with slot := some reply } else e).map
          (fun e => { e with slot := none }) = s.line.roster.map fun e => { e with slot := none } := by
        rw [List.map_map]
        refine List.map_congr_left fun e _ => ?_
        by_cases h : e.station = n <;> simp [h]
      unfold State.withoutReplies State.modifyEntry
      dsimp only
      rw [hmap]
  unfold State.complete State.putReply
  repeat' split
  · exact hslots _
  · rfl
  · rfl
  · rfl

/-- R14: a reply leaves the reply slots of other stations. -/
theorem State.replyOf_complete_other (s : State) {n m : Nat} (r : Result) (p : List Byte) (h : m ≠ n) :
    (s.complete n r p).replyOf m = s.replyOf m := by
  have hservice : n ≠ Config.serviceStation → (s.complete n r p).line.serviceSlot = s.line.serviceSlot := fun hn => by
    unfold State.complete State.putReply
    repeat' split
    all_goals rfl
  unfold State.replyOf
  rw [State.entryOf_complete_other s n r p h]
  cases s.entryOf m with
  | some e => rfl
  | none =>
    dsimp only
    split
    · next hm => exact hservice fun hn => h (hm.trans hn.symm)
    · rfl

/-- R184: the reply of a request that waited, after work that the replies and the requests in progress are no part of. -/
theorem State.Awaits.answered {s u : State} {sender tag : Nat} (h : s.Awaits sender tag)
    (hr : u.mgmt.requests = s.mgmt.requests) (hl : u.line = s.line) (r : Result) (p : List Byte) :
    State.Answered sender tag r p s u (u.complete sender r p) := by
  obtain ⟨htag, hslot⟩ := h
  have htags : ∀ n, u.tagOf n = s.tagOf n := fun n => by
    unfold State.tagOf
    rw [hr]
  have hentries : ∀ n, u.entryOf n = s.entryOf n := fun n => by
    unfold State.entryOf
    rw [hl]
  have hslotted : u.enrolled sender = true ∨ sender = Config.serviceStation := by
    unfold State.enrolled
    rw [hentries]
    exact hslot
  obtain ⟨hreply, hrequests⟩ := u.replyOf_complete sender r p ((htags sender).trans htag) hslotted
  have htagged : ∀ n, (u.complete sender r p).tagOf n = s.tagOf n := fun n => by
    unfold State.tagOf
    rw [hrequests, hr]
  have hreplies : ∀ n, u.replyOf n = s.replyOf n := fun n => by
    unfold State.replyOf
    rw [hentries, hl]
  exact ⟨hreply, (htagged sender).trans htag,
    fun other ho => ⟨(u.replyOf_complete_other r p ho).trans (hreplies other), htagged other⟩,
    u.withoutReplies_complete sender r p⟩

/-- R179: the CRC of a section is that of its stored content, or of no bytes. -/
theorem verifyCompletion_answers (s : State) (sender tag : Nat) (n : SectionNo) (expected : Word)
    (h : s.store.state = .verifying sender n expected) (ha : s.Awaits sender tag) :
    ∃ (t : State) (crc : Word), exec .verifyCompletion s = .next t ∧
      (s.store.image[n] = .erased → crc = 0xFFFF#16) ∧
      (∀ content stored, s.store.image[n] = .stored content stored → crc = crc16 content) ∧
      State.Answered sender tag .done ((if crc = expected then 0#8 else 1#8) :: wordBytes crc) s
        { s with store := { s.store with state := .idle, last := .verify (crc == expected) n crc } } t := by
  have hcode : ∀ crc : Word, boolByte (crc != expected) = if crc = expected then 0#8 else 1#8 := fun crc => by
    unfold boolByte
    by_cases he : crc = expected <;> simp [he]
  have hend : s.verifyCompletion =
      State.complete sender .done ((if s.store.sectionCrc n = expected then 0#8 else 1#8) :: wordBytes (s.store.sectionCrc n))
        { s with
          store :=
            { s.store with
              state := .idle, last := .verify (s.store.sectionCrc n == expected) n (s.store.sectionCrc n) } } := by
    unfold State.verifyCompletion
    rw [h]
    dsimp only
    rw [hcode]
    rfl
  refine ⟨_, s.store.sectionCrc n, congrArg Host.Outcome.next hend, fun he => ?_, fun content stored hs => ?_,
    ha.answered (by rfl) (by rfl) _ _⟩ <;> unfold StoreBlock.sectionCrc
  · rw [he]
    rfl
  · rw [hs]
    rfl

/-- Settles O55: a SAVE or VERIFY is taken into an IDLE store, and its completion ends it by what the medium reads back. -/
theorem storeOperationsEnd : Obligations.StoreOperationsEnd := by
  refine ⟨fun s sender tag h => ?_, fun s current h => ⟨saveCompletion_good s current h, fun readBack bad => ?_⟩,
    verifyCompletion_answers, fun s h => ⟨?_, fun readBack => ?_⟩⟩
  · obtain ⟨t, hexec, hbusy, haccepted⟩ := save_taken s sender tag h
    exact ⟨⟨t, hexec, hbusy, haccepted⟩, verify_taken s sender tag h⟩
  · exact fun hgood hbad => saveCompletion_bad s current h readBack bad (s.tables.firstBad_eq_some hgood hbad)
  · refine congrArg Host.Outcome.next ?_
    unfold State.verifyCompletion
    rw [h]
  · refine congrArg Host.Outcome.next ?_
    unfold State.saveCompletion
    rw [h]

end Sys2Proof.Machine
end

section
/-! PROOFS. The supply, and what a SAVE that it cuts off leaves (O19). -/

namespace Sys2Proof.Machine

/-! ### The image of a SAVE that is cut off (R178) -/

theorem Tables.getElem_cutImage (T : Tables) (done : Nat) (rest : List ImageSection) (n : SectionNo) :
    (T.cutImage done rest)[n] =
      if n.val < done then T.written n else tornSection ((rest[n.val - done]?).getD .erased) := by
  unfold Tables.cutImage
  simp

/-- R178: a torn section is erased, or its CRC disagrees with its content. -/
theorem tornSection_cases (x : ImageSection) :
    tornSection x = .erased ∨ ∃ content crc, tornSection x = .stored content crc ∧ crc16 content ≠ crc := by
  cases x with
  | erased => exact .inl rfl
  | stored content crc =>
    unfold tornSection
    dsimp only
    split
    · exact .inl rfl
    · next h => exact .inr ⟨content, crc, rfl, h⟩

theorem soundContent_tornSection (x : ImageSection) : soundContent (tornSection x) = none := by
  rcases tornSection_cases x with h | ⟨content, crc, h, hcrc⟩ <;> rw [h]
  · rfl
  · exact if_neg hcrc

/-- R173: an image with a bad section gives no tables. -/
theorem loadImage_of_unsound {image : Vector ImageSection 6} {n : SectionNo} (h : soundContent image[n] = none) :
    loadImage image = none := by
  have sound : ∀ {α : Type} {x : ImageSection} {f : List Byte → Option α} {a : α},
      (soundContent x).bind f = some a → soundContent x ≠ none := fun ha hx => by
    rw [hx] at ha
    cases ha
  unfold loadImage
  split
  · next h0 h1 h2 h3 h4 h5 =>
    refine absurd h ?_
    match n with
    | 0 => exact sound h0
    | 1 => exact sound h1
    | 2 => exact sound h2
    | 3 => exact sound h3
    | 4 => exact sound h4
    | 5 => exact sound h5
  · rfl

/-- R178: where a section was not written whole, loading finds a bad one. -/
theorem Tables.loadImage_cutImage (T : Tables) {done : Nat} (rest : List ImageSection) (h : done < 6) :
    loadImage (T.cutImage done rest) = none := by
  refine loadImage_of_unsound (n := ⟨done, h⟩) ?_
  rw [Tables.getElem_cutImage, if_neg (Nat.lt_irrefl done)]
  exact soundContent_tornSection _

/-- R177: where every section was written whole, the image is that of the SAVE. -/
theorem Tables.cutImage_whole (T : Tables) {done : Nat} (rest : List ImageSection) (h : 6 ≤ done) :
    T.cutImage done rest = Vector.ofFn T.written := table_ext fun n => by
  rw [Tables.getElem_cutImage, if_pos (n.isLt.trans_le h)]
  simp

/-! ### The supply (R171, R178) -/

theorem State.imageAfterLoss_of_saving {s : State} {current : SectionNo} (h : s.store.state = .saving current) (done : Nat)
    (rest : List ImageSection) : s.imageAfterLoss done rest = s.tables.cutImage done rest := by
  unfold State.imageAfterLoss
  rw [h]

theorem State.imageAfterLoss_of_not_saving {s : State} (h : ∀ n, s.store.state ≠ .saving n) (done : Nat)
    (rest : List ImageSection) : s.imageAfterLoss done rest = s.store.image := by
  unfold State.imageAfterLoss
  split
  · next n hn => exact absurd hn (h n)
  · rfl
  · rfl

theorem powerLoss_powered (s : State) (done : Nat) (rest : List ImageSection) (h : s.powered = true) :
    ∃ t, exec (.powerLoss done rest) s = .next t ∧ t.powered = false ∧ t.part = .loading ∧ t.pending = s.pending ∧
      t.store.state = .idle ∧ t.store.last = .none ∧
      ((∀ n, s.store.state ≠ .saving n) → t.store.image = s.store.image) ∧
      (∀ current, s.store.state = .saving current →
        (∀ n : SectionNo, n.val < done → t.store.image[n] = .stored (s.tables.content n) (crc16 (s.tables.content n))) ∧
        (∀ n : SectionNo, done ≤ n.val → t.store.image[n] = .erased ∨
          ∃ content crc, t.store.image[n] = .stored content crc ∧ crc16 content ≠ crc) ∧
        (done < 6 → loadImage t.store.image = none) ∧
        (6 ≤ done → t.store.image = Vector.ofFn s.tables.written)) := by
  refine ⟨_, congrArg Host.Outcome.next (if_pos h), rfl, rfl, rfl, rfl, rfl,
    fun hno => State.imageAfterLoss_of_not_saving hno done rest, fun current hsaving => ?_⟩
  have himage := State.imageAfterLoss_of_saving hsaving done rest
  show (∀ n : SectionNo, n.val < done → (s.imageAfterLoss done rest)[n] = _) ∧
    (∀ n : SectionNo, done ≤ n.val → (s.imageAfterLoss done rest)[n] = .erased ∨
      ∃ content crc, (s.imageAfterLoss done rest)[n] = .stored content crc ∧ crc16 content ≠ crc) ∧
    (done < 6 → loadImage (s.imageAfterLoss done rest) = none) ∧ (6 ≤ done → s.imageAfterLoss done rest = _)
  rw [himage]
  refine ⟨fun n hn => ?_, fun n hn => ?_, s.tables.loadImage_cutImage rest, s.tables.cutImage_whole rest⟩
  · rw [Tables.getElem_cutImage, if_pos hn]
    rfl
  · rw [Tables.getElem_cutImage, if_neg (Nat.not_lt.mpr hn)]
    exact tornSection_cases _

/-- Settles O19: both commands lead to the values of power-on, with the image kept or cut. -/
theorem powerKeepsTheImage : Obligations.PowerKeepsTheImage := ⟨fun _ => rfl, powerLoss_powered⟩

end Sys2Proof.Machine
end

section
/-! SUPPORT. The codes and entries of the tables read back from their fields and bytes (R194, Table 12-7). -/

namespace Sys2Proof.Machine

/-! ### Codes (R194) -/

theorem triggerOf_code (x : Trigger) : triggerOf x.code = some x := by cases x <;> rfl

theorem applyPointOf_code (x : ApplyPoint) : applyPointOf x.code = some x := by cases x <;> rfl

theorem feedbackKindOf_code (x : FeedbackKind) : feedbackKindOf x.code = some x := by cases x <;> rfl

theorem privilegeOf_code (x : Privilege) : privilegeOf x.code = some x := by cases x <;> rfl

theorem yesNoOf_toNat (b : Bool) : yesNoOf b.toNat = some b := by cases b <;> rfl

theorem curveOf_of_code (x : Curve) : curveOf x.code = some x := by cases x <;> rfl

theorem mergeRuleOf_of_code (x : MergeRule) : mergeRuleOf x.code = some x := by cases x <;> rfl

theorem lossActionOf_of_code (x : LossAction) : lossActionOf x.code = some x := by cases x <;> rfl

/-- Table 2-2: a window holds WORK or HOUSE. -/
theorem windowLayerOf_code {x : Layer} (h : x ≠ .scene) : windowLayerOf x.code = some x := by
  cases x with
  | work | house => rfl
  | scene => exact absurd rfl h

theorem masterGroupOf_masterGroupCode (x : Option Master) : masterGroupOf (masterGroupCode x) = some x := by
  cases x with
  | none => rfl
  | some m =>
    have hmaster : m.val ≠ 0xFF := (m.isLt.trans (by decide)).ne
    unfold masterGroupOf masterGroupCode
    dsimp only
    rw [if_neg hmaster, indexOf_val]
    rfl

theorem actionOf_code (x : Action) : actionOf x.code x.argument = some x := by
  cases x with
  | master m => exact congrArg (Option.map Action.master) (indexOf_val m)
  | scene n => exact congrArg (Option.map Action.scene) (sceneOf_sceneNumber n)
  | mode op => cases op <;> rfl
  | cue c => cases c <;> rfl
  | _ => rfl

theorem targetOf_code (x : Target) : targetOf x.kindCode x.argument = some x := by
  cases x with
  | offset c => exact congrArg (Option.map Target.offset) (circuitOf_circuitNumber c)
  | group g => exact congrArg (Option.map Target.group) (indexOf_val g)
  | none => rfl

theorem powerOnSceneOf_number (x : Option SceneNo) : powerOnSceneOf (powerOnSceneNumber x) = some x := by
  cases x with
  | none => rfl
  | some n =>
    unfold powerOnSceneOf powerOnSceneNumber
    dsimp only
    rw [sceneOf_sceneNumber, if_neg (show sceneNumber n ≠ 0 from Nat.succ_ne_zero _)]
    rfl

theorem clamp_of_mem {lo hi n : Nat} (h1 : lo ≤ n) (h2 : n ≤ hi) : clamp lo hi n = n := by
  unfold clamp
  omega

/-! ### Entries from their fields -/

/-- Table 2-2: the fields of a window in its ranges describe it. -/
theorem windowOf_fields {w : Window} (h : w.Good) : windowOf w.enabled w.fields = some w := by
  obtain ⟨h1, h2, h3, h4, h5, hpitch, hlayer, hlevel, hstep1, hstep, hfade, hhold1, hhold⟩ := h
  have hranges : windowRangesGood w.fields = true := by
    unfold windowRangesGood Window.fields
    simp [h1, h2, h3, h4, h5]
  have hclamp : clampWindow w.fields = w.fields := by
    unfold clampWindow Window.fields
    simp [clamp_of_mem, hpitch, hlevel, hstep1, hstep, hfade, hhold1, hhold]
  unfold windowOf
  rw [if_pos hranges, hclamp]
  unfold Window.fields
  dsimp only
  rw [triggerOf_code, actionOf_code, targetOf_code, windowLayerOf_code hlayer, applyPointOf_code, feedbackKindOf_code,
    yesNoOf_toNat]

/-- Table 6-4: the fields of a circuit's record in its ranges describe it. -/
theorem attrOf_fields {a : Attr} (h : a.Good) : attrOf a.fields = some a := by
  have hclamp : clampCircuit a.fields = a.fields := (clampCircuit_eq_iff a.fields).mpr h
  unfold attrOf
  rw [hclamp]
  unfold Attr.fields
  dsimp only
  rw [curveOf_of_code, masterGroupOf_masterGroupCode, mergeRuleOf_of_code, yesNoOf_toNat, lossActionOf_of_code]

/-- Table 10-5: the fields of a settings record in its ranges describe it, with its masks. -/
theorem settingsOf_fields {t : Settings} (h : t.Good) : settingsOf t.masks t.fields = some t := by
  obtain ⟨h1, h2, h3, h4, -⟩ := h
  have hclamp : clampSettings t.fields = t.fields := (clampSettings_eq_iff t.fields).mpr ⟨h1, h2, h3, h4⟩
  unfold settingsOf
  rw [hclamp]
  unfold Settings.fields
  dsimp only
  rw [powerOnSceneOf_number, yesNoOf_toNat, yesNoOf_toNat]

/-! ### Fields within their bytes -/

theorem Window.fields_fits {w : Window} (h : w.Good) : w.fields.fits = true := by
  obtain ⟨-, hfirst, hlast, hcontrol, hcontrols, hpitch, -, hlevel, -, hstep, hfade, -, hhold⟩ := h
  have hen : w.enabled.toNat < 256 := (Bool.toNat_lt _).trans (by decide)
  have hsafe : w.showSafe.toNat < 256 := (Bool.toNat_lt _).trans (by decide)
  have htrigger : w.trigger.code < 256 := by cases w.trigger <;> decide
  have haction : w.action.code < 256 := by cases w.action <;> simp [Action.code]
  have harg : w.action.argument < 256 := by
    cases w.action with
    | master m => exact m.isLt.trans (by decide)
    | scene n => exact (Nat.succ_lt_succ n.isLt).trans (by decide)
    | mode op => cases op <;> decide
    | cue c => cases c <;> decide
    | _ => decide
  have hkind : w.target.kindCode < 256 := by cases w.target <;> simp [Target.kindCode]
  have htarget : w.target.argument < 65536 := by
    cases w.target with
    | offset c => exact (Nat.succ_lt_succ c.isLt).trans (by decide)
    | group g => exact g.isLt.trans (by decide)
    | none => decide
  have hlay : w.layer.code < 256 := by cases w.layer <;> decide
  have happly : w.apply.code < 256 := by cases w.apply <;> decide
  have hfeed : w.feedback.code < 256 := by cases w.feedback <;> decide
  simp only [Config.stationMax] at hlast
  simp only [WindowFields.fits, Window.fields, Bool.and_eq_true, oneByte_iff, twoBytes_iff]
  omega

theorem Attr.fields_fits {a : Attr} (h : a.Good) : a.fields.fits = true := by
  obtain ⟨hpreheat, -, htop, -, hswitch, hfade, hegress, hloss⟩ := h
  have hcurve : a.curve.code < 256 := by cases a.curve <;> decide
  have hgroup : masterGroupCode a.masterGroup < 256 := by
    cases a.masterGroup with
    | none => decide
    | some m => exact m.isLt.trans (by decide)
  have hrule : a.mergeRule.code < 256 := by cases a.mergeRule <;> decide
  have hflag : a.egress.toNat < 256 := (Bool.toNat_lt _).trans (by decide)
  have haction : a.lossAction.code < 256 := by cases a.lossAction <;> decide
  simp only [CircuitFields.fits, Attr.fields, Bool.and_eq_true, oneByte_iff, twoBytes_iff]
  omega

theorem Settings.fields_fits {t : Settings} (h : t.Good) : t.fields.fits = true := by
  obtain ⟨-, hloss, hmode, hrecovery, -⟩ := h
  have hscene : powerOnSceneNumber t.powerOnScene < 256 := by
    cases t.powerOnScene with
    | none => decide
    | some n => exact (Nat.succ_lt_succ n.isLt).trans (by decide)
  have hlearn : t.learn.toNat < 256 := (Bool.toNat_lt _).trans (by decide)
  have hcue : t.houseToCue.toNat < 256 := (Bool.toNat_lt _).trans (by decide)
  simp only [SettingsFields.fits, Settings.fields, Bool.and_eq_true, oneByte_iff, twoBytes_iff]
  omega

/-! ### Entries from their bytes (R173) -/

theorem windowEntry_bytes {w : Window} (h : w.Good) : windowEntry (windowBytes w.fields) = some w := by
  have henabled : yesNoOf w.fields.enabled = some w.enabled := yesNoOf_toNat w.enabled
  unfold windowEntry
  rw [windowFieldsOf_windowBytes (Window.fields_fits h)]
  dsimp only
  rw [henabled]
  dsimp only
  rw [windowOf_fields h]
  exact if_pos rfl

theorem circuitEntry_bytes {a : Attr} (h : a.Good) : circuitEntry (circuitBytes a.fields) = some a := by
  unfold circuitEntry
  rw [circuitFieldsOf_circuitBytes (Attr.fields_fits h)]
  dsimp only
  rw [attrOf_fields h]
  exact if_pos rfl

theorem loadSettings_bytes {t : Settings} (h : t.Good) : loadSettings t.bytes = some t := by
  obtain ⟨-, -, -, -, hstored⟩ := id h
  have hfields : t.bytes.take 8 = settingsBytes t.fields := rfl
  have hmasks : t.bytes.drop 8 = [BitVec.ofNat 8 (t.masks.toNat / 256), t.masks.setWidth 8] := by
    rw [← BitVec.ofNat_toNat]
    rfl
  unfold loadSettings settingsEntry
  rw [hfields, hmasks, settingsFieldsOf_settingsBytes (Settings.fields_fits h)]
  dsimp only
  rw [wordOf_wordBytes, settingsOf_fields h]
  exact if_pos ⟨rfl, hstored⟩

/-- Table 1-2, R1: the stored fields of a roster entry in its ranges give it back with its live state begun afresh. -/
theorem rosterEntry_bytes {e : RosterEntry}
    (h : 1 ≤ e.station ∧ e.station ≤ Config.stationMax ∧ 1 ≤ e.controls ∧ e.controls ≤ 32) :
    rosterEntry e.bytes = some e.asLoaded := by
  obtain ⟨-, hmax, -, hcount⟩ := id h
  have hstation : (byteOf e.station).toNat = e.station := toNat_byteOf (hmax.trans_lt (by decide))
  have hcontrols : (byteOf e.controls).toNat = e.controls := toNat_byteOf (hcount.trans_lt (by decide))
  have hprivilege : (byteOf e.privilege.code).toNat = e.privilege.code := by cases e.privilege <;> rfl
  unfold rosterEntry RosterEntry.bytes
  dsimp only
  rw [hstation, hcontrols, hprivilege, privilegeOf_code]
  exact if_pos h

theorem memberEntry_bytes (c : Circuit) : memberEntry (be16 (circuitNumber c)) = some c := by
  have hnumber : circuitNumber c < 65536 := (Nat.succ_lt_succ c.isLt).trans (by decide)
  unfold memberEntry be16
  dsimp only
  rw [ofBe16_be16 hnumber, circuitOf_circuitNumber]

theorem sceneEntryOf_bytes {e : SceneEntry} (h : e.level ≤ 1000) : sceneEntryOf e.bytes = some e := by
  have hnumber : circuitNumber e.circuit < 65536 := (Nat.succ_lt_succ e.circuit.isLt).trans (by decide)
  unfold sceneEntryOf SceneEntry.bytes be16
  dsimp only [List.cons_append, List.nil_append]
  rw [ofBe16_be16 hnumber, circuitOf_circuitNumber, ofBe16_be16 (h.trans_lt (by decide))]
  exact if_pos h

end Sys2Proof.Machine
end

section
/-! PROOFS. Loading the image that a SAVE writes gives the tables back (O16). -/

namespace Sys2Proof.Machine

/-! ### Readers on what was written -/

/-- A reader that reads back each entry of a list, whatever follows it, reads back the list. -/
theorem readMany_flatMap {α β : Type} {one : Reader α} {enc : β → List Byte} {dec : β → α} (l : List β)
    (h : ∀ b ∈ l, ∀ rest, one (enc b ++ rest) = some (dec b, rest)) (rest : List Byte) :
    readMany one l.length (l.flatMap enc ++ rest) = some (l.map dec, rest) := by
  induction l with
  | nil => rfl
  | cons b l ih =>
    have hhead := h b List.mem_cons_self (l.flatMap enc ++ rest)
    have htail := ih fun x hx => h x (List.mem_cons_of_mem b hx)
    rw [List.flatMap_cons, List.append_assoc, List.length_cons, readMany, hhead]
    dsimp only
    rw [htail]
    rfl

theorem readFixed_bytes {α : Type} {of : List Byte → Option α} {a : α} {bytes : List Byte} {len : Nat}
    (hlen : bytes.length = len) (h : of bytes = some a) (rest : List Byte) :
    readFixed len of (bytes ++ rest) = some (a, rest) := by
  unfold readFixed
  rw [← hlen, List.take_left, List.drop_left, h]
  rfl

theorem whole_of_read {α : Type} {r : Reader α} {bytes : List Byte} {a : α} (h : r (bytes ++ []) = some (a, [])) :
    whole r bytes = some a := by
  rw [List.append_nil] at h
  unfold whole
  rw [h]

theorem ascending_of_sorted : ∀ {l : List Nat}, l.Pairwise (· < ·) → ascending l = true
  | [], _ => rfl
  | [_], _ => rfl
  | a :: b :: rest, h => by
    obtain ⟨ha, hrest⟩ := List.pairwise_cons.mp h
    unfold ascending
    rw [ascending_of_sorted hrest, decide_eq_true (ha b List.mem_cons_self)]
    rfl

theorem tableOf_toList {α : Type} {n : Nat} (v : Vector α n) : tableOf n v.toList = some v := by
  unfold tableOf
  rw [dif_pos Vector.length_toList]
  exact congrArg some (Vector.toArray_inj.mp v.toArray.toArray_toList)

/-- Entries one after another, as many as a table has. -/
theorem readMany_table {α : Type} {n : Nat} {one : Reader α} {enc : α → List Byte} (v : Vector α n)
    (h : ∀ a ∈ v.toList, ∀ rest, one (enc a ++ rest) = some (a, rest)) :
    whole (readMany one n) (v.toList.flatMap enc) = some v.toList := by
  have hread := readMany_flatMap (dec := id) v.toList h []
  rw [Vector.length_toList, List.map_id] at hread
  exact whole_of_read hread

theorem readFixed_table {α : Type} {n len : Nat} {of : List Byte → Option α} {enc : α → List Byte} (v : Vector α n)
    (hlen : ∀ a, (enc a).length = len) (h : ∀ a ∈ v.toList, of (enc a) = some a) :
    whole (readMany (readFixed len of) n) (v.toList.flatMap enc) = some v.toList :=
  readMany_table v fun a ha => readFixed_bytes (hlen a) (h a ha)

/-! ### Sections (R173, R196) -/

theorem loadRoster_bytes {l : List RosterEntry} (hsorted : l.Pairwise fun a b => a.station < b.station)
    (hlen : l.length ≤ Config.rosterMax)
    (hgood : ∀ e ∈ l, 1 ≤ e.station ∧ e.station ≤ Config.stationMax ∧ 1 ≤ e.controls ∧ e.controls ≤ 32) :
    loadRoster (byteOf l.length :: l.flatMap RosterEntry.bytes) = some (l.map RosterEntry.asLoaded) := by
  have hcount : (byteOf l.length).toNat = l.length := toNat_byteOf (hlen.trans_lt (by decide))
  have hread : whole (readMany (readFixed 3 rosterEntry) l.length) (l.flatMap RosterEntry.bytes) =
      some (l.map RosterEntry.asLoaded) :=
    whole_of_read (readMany_flatMap l
      (fun e he => readFixed_bytes (bytes := e.bytes) rfl (rosterEntry_bytes (hgood e he))) [])
  have hascending : ascending ((l.map RosterEntry.asLoaded).map (·.station)) = true := by
    refine ascending_of_sorted ?_
    rw [List.map_map]
    exact List.pairwise_map.mpr hsorted
  unfold loadRoster
  dsimp only
  rw [hcount, hread]
  exact if_pos (by rw [hascending, decide_eq_true hlen]; rfl)

theorem loadWindows_bytes {v : Vector Window 64} (h : ∀ w ∈ v.toList, w.Good) :
    loadWindows (v.toList.flatMap fun w => windowBytes w.fields) = some v := by
  unfold loadWindows
  rw [readFixed_table (len := 24) v (fun _ => rfl) fun w hw => windowEntry_bytes (h w hw)]
  exact tableOf_toList v

theorem loadCircuits_bytes {v : Vector Attr 512} (h : ∀ a ∈ v.toList, a.Good) :
    loadCircuits (v.toList.flatMap fun a => circuitBytes a.fields) = some v := by
  unfold loadCircuits
  rw [readFixed_table (len := 17) v (fun _ => rfl) fun a ha => circuitEntry_bytes (h a ha)]
  exact tableOf_toList v

/-- R46: a group in its limits. -/
theorem readGroup_bytes {g : List Circuit} (hsorted : g.Pairwise (· < ·)) (hlen : g.length ≤ Config.groupMax)
    (rest : List Byte) : readGroup (groupBytes g ++ rest) = some (g, rest) := by
  have hcount : (byteOf g.length).toNat = g.length := toNat_byteOf (hlen.trans_lt (by decide))
  have hread := readMany_flatMap (dec := id) g (fun c _ => readFixed_bytes (len := 2) rfl (memberEntry_bytes c)) rest
  rw [List.map_id] at hread
  have hascending : ascending (g.map Fin.val) = true := ascending_of_sorted (List.pairwise_map.mpr hsorted)
  unfold readGroup groupBytes
  rw [List.cons_append]
  dsimp only
  rw [hcount, hread]
  exact if_pos (by rw [hascending, decide_eq_true hlen]; rfl)

theorem loadGroups_bytes {v : Vector (List Circuit) 64}
    (h : ∀ g ∈ v.toList, g.Pairwise (· < ·) ∧ g.length ≤ Config.groupMax)
    (hsum : (v.toList.map (·.length)).sum ≤ Config.groupPlaces) : loadGroups (v.toList.flatMap groupBytes) = some v := by
  unfold loadGroups
  rw [readMany_table v fun g hg => readGroup_bytes (h g hg).1 (h g hg).2]
  dsimp only
  rw [if_pos hsum]
  exact tableOf_toList v

/-- R77: a scene names each circuit once at most. -/
theorem SceneRecord.Good.length_le {r : SceneRecord} (h : r.Good) : r.entries.length ≤ 512 := by
  obtain ⟨-, hsorted, -⟩ := h
  have hnodup : (r.entries.map (·.circuit)).Nodup := List.pairwise_map.mpr (hsorted.imp ne_of_lt)
  simpa using hnodup.length_le_card

theorem readScene_bytes {r : SceneRecord} (h : r.Good) (rest : List Byte) : readScene (r.bytes ++ rest) = some (r, rest) := by
  have hcount := ofBe16_be16 (h.length_le.trans_lt (by decide : 512 < 65536))
  obtain ⟨hfade, hsorted, hlevels⟩ := h
  have hread := readMany_flatMap (enc := SceneEntry.bytes) (dec := id) r.entries
    (fun e he => readFixed_bytes (len := 4) rfl (sceneEntryOf_bytes (hlevels e he))) rest
  rw [List.map_id] at hread
  have hascending : ascending (r.entries.map fun e => e.circuit.val) = true :=
    ascending_of_sorted (List.pairwise_map.mpr hsorted)
  unfold readScene SceneRecord.bytes be16
  dsimp only [List.cons_append, List.nil_append]
  rw [hcount, hread, ofBe16_be16 (hfade.trans_lt (by decide))]
  exact if_pos (by rw [hascending, decide_eq_true hfade]; rfl)

theorem loadScenes_bytes {v : Vector SceneRecord 96} (h : ∀ r ∈ v.toList, r.Good)
    (hsum : (v.toList.map (·.entries.length)).sum ≤ Config.scenePlaces) :
    loadScenes (v.toList.flatMap SceneRecord.bytes) = some v := by
  unfold loadScenes
  rw [readMany_table v fun r hr => readScene_bytes (h r hr)]
  dsimp only
  rw [if_pos hsum]
  exact tableOf_toList v

/-! ### The image (R172, R177) -/

theorem soundContent_written (T : Tables) (n : SectionNo) : soundContent (T.written n) = some (T.content n) := if_pos rfl

theorem loadImage_written {T : Tables} (h : T.Good) : loadImage (Vector.ofFn T.written) = some T.asLoaded := by
  obtain ⟨hsettings, ⟨hsorted, hlen, hroster⟩, hwindows, ⟨hgroups, hplaces⟩, ⟨hscenes, hentries⟩, hattrs⟩ := h
  have hsound : ∀ n : SectionNo, soundContent (Vector.ofFn T.written)[n] = some (T.content n) := fun n => by
    rw [show (Vector.ofFn T.written)[n] = T.written n by simp]
    exact soundContent_written T n
  have h0 : (soundContent (Vector.ofFn T.written)[0]).bind loadSettings = some T.settings :=
    (congrArg (·.bind loadSettings) (hsound 0)).trans (loadSettings_bytes hsettings)
  have h1 : (soundContent (Vector.ofFn T.written)[1]).bind loadRoster = some (T.roster.map RosterEntry.asLoaded) :=
    (congrArg (·.bind loadRoster) (hsound 1)).trans (loadRoster_bytes hsorted hlen hroster)
  have h2 : (soundContent (Vector.ofFn T.written)[2]).bind loadWindows = some T.windows :=
    (congrArg (·.bind loadWindows) (hsound 2)).trans (loadWindows_bytes hwindows)
  have h3 : (soundContent (Vector.ofFn T.written)[3]).bind loadGroups = some T.groups :=
    (congrArg (·.bind loadGroups) (hsound 3)).trans (loadGroups_bytes hgroups hplaces)
  have h4 : (soundContent (Vector.ofFn T.written)[4]).bind loadScenes = some T.scenes :=
    (congrArg (·.bind loadScenes) (hsound 4)).trans (loadScenes_bytes hscenes hentries)
  have h5 : (soundContent (Vector.ofFn T.written)[5]).bind loadCircuits = some T.attrs :=
    (congrArg (·.bind loadCircuits) (hsound 5)).trans (loadCircuits_bytes hattrs)
  unfold loadImage
  rw [h0, h1, h2, h3, h4, h5]
  rfl

/-- Settles O16: each section is read back entry by entry, and the limits that loading checks are those of the tables. -/
theorem imageRoundTrip : Obligations.ImageRoundTrip := fun _ h => loadImage_written h

end Sys2Proof.Machine
end

section
/-! PROOFS. A step, by the shape of the queue (O1). -/

namespace Sys2Proof.Machine

/-- The front command runs on the state that holds the rest of the queue. -/
theorem step_of_pending_cons {s : State} {c : Instr} {rest : List Instr} (h : s.pending = c :: rest) :
    step s = exec c (s.withPending rest) := by
  unfold step
  rw [h]

/-- Log entry 4: with nothing queued the part idles. -/
theorem step_of_pending_nil {s : State} (h : s.pending = []) : step s = .next s := by
  unfold step
  rw [h]

/-- Settles O1: the two equations of a step, one for each shape of the queue. -/
theorem stepRunsTheFrontCommand : Obligations.StepRunsTheFrontCommand :=
  fun _ _ _ => ⟨step_of_pending_cons, step_of_pending_nil⟩

end Sys2Proof.Machine
end
